-- ==== Sys2Proof/Word.lean ====
section
/-!
DEFINITION. The words of the block and its plainest enumerations: the byte, the segment mask, the clock word, the
state tags (R70), the two wire-format profiles (R33, R72), the seven configuration commands (R34, R74) and the
address spaces (R50).
-/

namespace Sys2Proof

/-- A byte of `BUF`, of `ICONS`, a character code (R9, R27, R28). -/
abbrev Byte := BitVec 8

/-- A segment mask: a `SEGTAB` entry and the Encoder's working value, `MASK_W` = 32 bits (R8, R78). -/
abbrev Mask := BitVec 32

/-- A count of microseconds, `TIME_W` = 64 bits (R8, R25). -/
abbrev Micros := BitVec 64

/-- The sixteen state tags in the order of rule R70. `current`, `previous` and `next` hold one each; the numeric code is
presentation (R70) and is `Tag.code` in Decode.lean. -/
inductive Tag where
  | initPeripheral
  | setCfgProtocolFormat
  | cfgSysDis
  | cfgComOption
  | cfgMasterMode
  | cfgSysOn
  | cfgPwmMode
  | cfgBlinkMode
  | cfgLedOn
  | cancelCfgProtocolFormat
  | setWriteProtocolFormat
  | refresh
  | prepareReinit
  | waitDriverReady
  | cancelCfgOffMode
  | offMode
  deriving DecidableEq, Repr, Inhabited

/-- The two wire-format profiles `P_CONFIG` and `P_REFRESH` (R33, R72). -/
inductive Profile where
  | config
  | refresh
  deriving DecidableEq, Repr, Inhabited

/-- The seven configuration commands, in the order a cold pass sends them (R74, R120). -/
inductive CfgCommand where
  | sysDis
  | comOption
  | masterMode
  | sysOn
  | pwmDuty
  | blinkOff
  | ledOn
  deriving DecidableEq, Repr, Inhabited

/-- The address spaces of rule R50 that the environment can write. -/
inductive Space where
  | digit
  | digitBlink
  | iconBlink
  | icons
  deriving DecidableEq, Repr

end Sys2Proof
end

