-- ==== Sys2Proof/Config.lean ====
section
/-!
DEFINITION. What is fixed for one machine and what is free. The constants and OPEN parameters of rule R8 as one record,
with the conditions under which the block accepts them (R142, U11, U12); the shared display structures (R28 to R31);
what the environment answers in one tick (R37, R40); and the free values: constants with no body, of which nothing can
be proved, for the parameters the spec leaves OPEN (R8), the values it calls unspecified at reset (R43) and the answers
of an environment that no scenario fixes (R104).
-/

namespace Sys2Proof

/-! ## Fixed quantities (R8) -/

/-- `BUF_BYTES` = `N_SEGMENTS` = 16 (R8). -/
def bufBytes : Nat := 16

/-- `DIGIT_BIT_OFFSET` = 2 (R8). -/
def digitBitOffset : Nat := 2

/-- `REFRESH_PERIOD_US` = 5 000 000, the watchdog window (R35). -/
def refreshPeriodUs : Micros := 5000000#64

/-- `WR_LEN_BITS`: buffer size times 8 = 128 (R8, R149 (d)). -/
def wrLenBits : Nat := bufBytes * 8

/-! ## Parameters (R8) -/

/-- A command constant `C_x`: the two header field values, as numbers (R34). -/
structure CommandConst where
  cmd  : Nat
  addr : Nat
  deriving DecidableEq, Repr, Inhabited

/-- One value for each of the five digit positions, left to right; index 0 is LEFT_1 (R28). -/
structure PerDigit (α : Type) where
  left1  : α
  left2  : α
  middle : α
  right1 : α
  right2 : α
  deriving DecidableEq, Repr, Inhabited

/-- The implementation parameters of rule R8. `busCfg` stands for the opaque `BUSCFG`. `tickYield` and `queueTimeout` are
OPEN durations, none being "unbounded": the first no rule reads, the second only travels with QueueTransaction (R104).
`awaitTimeout` no rule reads: the wait is unbounded whatever it is (R131, D9 (d)). -/
structure Params where
  segDp       : Nat
  segtab      : List Mask
  iconCount   : Nat
  iconWifi    : Nat
  sysDis      : CommandConst
  comOption   : CommandConst
  masterMode  : CommandConst
  sysOn       : CommandConst
  pwmDuty     : CommandConst
  blinkOff    : CommandConst
  ledOn       : CommandConst
  write       : CommandConst
  busCfg      : Nat
  defaultChar : PerDigit Byte
  tickYield    : Nat
  queueTimeout : Option Nat
  awaitTimeout : Option Nat
  deriving DecidableEq, Repr, Inhabited

/-- A configuration command fits its 3-bit and 8-bit fields (U12). -/
def CommandConst.fitsConfig (c : CommandConst) : Bool :=
  c.cmd < 8 && c.addr < 256

/-- The refresh command fits its 3-bit and 7-bit fields (U12). -/
def CommandConst.fitsRefresh (c : CommandConst) : Bool :=
  c.cmd < 8 && c.addr < 128

/-- Rule R142 of a table: (a) 256 entries; (c) bits 16 to 31 of every entry 0; (d) bit `SEG_DP` of every entry 0. Part
(b), blank entries for unassigned codes, cannot be told from an assignment (U1). -/
def segtabOk (segDp : Nat) (segtab : List Mask) : Bool :=
  segtab.length == 256 && segtab.all fun m => decide (m.toNat < 65536) && !m.getLsbD segDp

/-- The parameters the block accepts: `SEG_DP` in 0..15, the table well formed (R142), `ICON_WIFI` < `ICON_COUNT` (R8),
every command constant inside its fields (U12) and a positive yield (R8). -/
def Params.wf (p : Params) : Bool :=
  decide (p.segDp < 16) && segtabOk p.segDp p.segtab && decide (p.iconWifi < p.iconCount)
    && p.sysDis.fitsConfig && p.comOption.fitsConfig && p.masterMode.fitsConfig && p.sysOn.fitsConfig
    && p.pwmDuty.fitsConfig && p.blinkOff.fitsConfig && p.ledOn.fitsConfig && p.write.fitsRefresh
    && decide (0 < p.tickYield)

/-- The constants of a machine: parameters together with the proof that the block accepts them (R142: "takes `SEGTAB` as
a configuration field together with a proof"). -/
abbrev Rom := { p : Params // p.wf = true }

/-! ## The shared display state (R28 to R31, R79) -/

/-- `DisplayDigit` (R28, R79). -/
structure DisplayDigit where
  character    : Byte
  decimalPoint : Bool
  deriving DecidableEq, Repr, Inhabited

/-- `BlinkState` (R29, R79). The three duty fields have no width in the source and are naturals (D24). -/
structure BlinkState where
  dutyOnTicks      : Nat
  dutyOffTicks     : Nat
  dutyCounter      : Nat
  active           : Bool
  toggle           : Bool
  endless          : Bool
  repeatsRemaining : Byte
  deriving DecidableEq, Repr, Inhabited

/-- One write of the application or of the blink timer to one element of the shared display state (R50, R170). There is
no move that writes what the worker owns: the frame of the environment's moves (R170). -/
inductive EnvWrite where
  | digit (d : Fin 5) (v : DisplayDigit)
  | digitBlink (d : Fin 5) (v : BlinkState)
  | iconBlink (i : Nat) (v : BlinkState)
  | icons (k : Nat) (v : Byte)
  deriving DecidableEq, Repr

/-- What the environment supplies for one clock edge: the input ports of R41 (`rst`, `tick_en`, `rsp_valid`, `rsp_ok`,
`now_us`), the token an attach answers with (R26), and the writes to the shared display state, in phases. Phase k lands
before the k-th shared read of the tick and phases left over land at its end, so that any element may change between
any two reads (R59). -/
structure Input where
  rst      : Bool
  tickEn   : Bool
  rspValid : Bool
  rspOk    : Bool
  token    : Nat
  nowUs    : Micros
  moves    : List (List EnvWrite)
  deriving DecidableEq, Repr, Inhabited

/-- An enabled edge with every answer 0 and no write: the input ports before the first edge. -/
def Input.quiet : Input :=
  { rst := false, tickEn := true, rspValid := false, rspOk := false, token := 0, nowUs := 0#64, moves := [] }

/-- An enabled edge on which the transport answers ok and a wait returns. -/
def Input.allOk : Input :=
  { Input.quiet with rspValid := true, rspOk := true }

/-! ## Free values -/

/-- The OPEN parameters (R8), unconstrained. -/
opaque Config.params : Params

/-- The environment's answers on edge n where no scenario fixes them (R104, R172, D28). -/
opaque Config.freeInput : Nat → Input

/-- `previous` after a reset on edge n: unspecified (R43). -/
opaque Config.resetPrevious : Nat → Tag

/-- `next` after a reset on edge n: unspecified (R43). -/
opaque Config.resetNext : Nat → Tag

/-- `refreshPeriodStart` after a reset on edge n: unspecified (R43). -/
opaque Config.resetPeriodStart : Nat → Micros

/-- What byte a of `BUF` holds until it is written: unspecified (R43). -/
opaque Config.resetBuf : Nat → Byte

/-- The compiled-in `DIGIT[d].decimalPoint`: any value (R43, D21). -/
opaque Config.defaultDecimalPoint : PerDigit Bool

/-- The compiled-in `DBLINK`: any value (R43, D21). -/
opaque Config.defaultDigitBlink : PerDigit BlinkState

/-- The compiled-in `IBLINK[i]`: any value (R43, D21). -/
opaque Config.defaultIconBlink : Nat → BlinkState

/-- The compiled-in byte k of `ICONS`: any value (R43, D21). -/
opaque Config.defaultIcons : Nat → Byte

/-- A well-formed record: the blank table. It stands only where the OPEN parameters are no machine at all. -/
def Params.blank : Params :=
  { segDp := 0, segtab := List.replicate 256 0#32, iconCount := 1, iconWifi := 0,
    sysDis := ⟨0, 0⟩, comOption := ⟨0, 0⟩, masterMode := ⟨0, 0⟩, sysOn := ⟨0, 0⟩, pwmDuty := ⟨0, 0⟩,
    blinkOff := ⟨0, 0⟩, ledOn := ⟨0, 0⟩, write := ⟨0, 0⟩, busCfg := 0,
    defaultChar := ⟨0#8, 0#8, 0#8, 0#8, 0#8⟩, tickYield := 1, queueTimeout := none, awaitTimeout := none }

theorem Params.blank_wf : Params.blank.wf = true := by decide +kernel

/-- The OPEN parameters as constants of the machine after reset: any well-formed record, and nothing more is known of it
(R8, R193 (a)). -/
def Config.rom : Rom :=
  if h : Config.params.wf = true then ⟨Config.params, h⟩ else ⟨Params.blank, Params.blank_wf⟩

end Sys2Proof
end

