-- ==== Sys2Proof/Syntax.lean ====
section
/-!
DEFINITION. The instructions of the block (R4, R85): one constructor per row of spec/opcode_table.json. Sixteen state
tags, seven configuration command transactions, the refresh transaction and six bus operations.
-/

namespace Sys2Proof

/-- The rows of spec/opcode_table.json, in its order. A `STATE` row has no operand (R70). A `CFGTX` row carries the two
header fields of its record, 3 and 8 bits (R74); `WRTX` the same in 3 and 7 bits, its payload being `BUF` (R75, R76).
A `BUSOP` row carries what its other ports carry: `op_profile` for ATTACH; `tx_cmd`, `tx_addr` and `tx_len` for QUEUE,
whose `tx_data` is wired to `BUF` (R41, R81). -/
inductive Instr where
  | initPeripheral
  | setCfgProtocolFormat
  | cfgSysDis
  | cfgComOption
  | cfgMasterMode
  | cfgSysOn
  | cfgPwmMode
  | cfgBlinkMode
  | cfgLedOn
  | cancelCfgProtocolFormat
  | setWriteProtocolFormat
  | refresh
  | prepareReinit
  | waitDriverReady
  | cancelCfgOffMode
  | offMode
  | cfgtxSysDis (cmd : BitVec 3) (addr : BitVec 8)
  | cfgtxComOption (cmd : BitVec 3) (addr : BitVec 8)
  | cfgtxMasterMode (cmd : BitVec 3) (addr : BitVec 8)
  | cfgtxSysOn (cmd : BitVec 3) (addr : BitVec 8)
  | cfgtxPwmDuty (cmd : BitVec 3) (addr : BitVec 8)
  | cfgtxBlinkOff (cmd : BitVec 3) (addr : BitVec 8)
  | cfgtxLedOn (cmd : BitVec 3) (addr : BitVec 8)
  | wrtx (cmd : BitVec 3) (addr : BitVec 7)
  | busopNone
  | busopBusInit
  | busopAttach (profile : Profile)
  | busopDetach
  | busopQueue (cmd : BitVec 3) (addr : BitVec 8) (len : BitVec 8)
  | busopAwait
  deriving DecidableEq, Repr

end Sys2Proof
end

