-- ==== Sys2Proof/WellFormed.lean ====
section
/-!
DEFINITION. Which instructions are well formed. Only the operand ports of QUEUE can be ill formed: `tx_len` takes the
values 0 and 128 alone (R82 (d), R41), and under the refresh profile, whose records are the 128-bit ones, bit 7 of
`tx_addr` is 0 (R41).
-/

namespace Sys2Proof

/-- `tx_len` holds one of the two payload lengths a record has (R82 (d)). -/
def txLengthOk (len : BitVec 8) : Bool :=
  len == 0#8 || len == 128#8

/-- A 128-bit record belongs to the refresh profile and has a 7-bit address: bit 7 of `tx_addr` is 0 (R41, R83). -/
def txAddrOk (addr len : BitVec 8) : Bool :=
  len != 128#8 || !addr.getLsbD 7

/-- Well-formed instructions. -/
def Instr.wf : Instr → Bool
  | .busopQueue _ addr len => txLengthOk len && txAddrOk addr len
  | .initPeripheral => true
  | .setCfgProtocolFormat => true
  | .cfgSysDis => true
  | .cfgComOption => true
  | .cfgMasterMode => true
  | .cfgSysOn => true
  | .cfgPwmMode => true
  | .cfgBlinkMode => true
  | .cfgLedOn => true
  | .cancelCfgProtocolFormat => true
  | .setWriteProtocolFormat => true
  | .refresh => true
  | .prepareReinit => true
  | .waitDriverReady => true
  | .cancelCfgOffMode => true
  | .offMode => true
  | .cfgtxSysDis _ _ => true
  | .cfgtxComOption _ _ => true
  | .cfgtxMasterMode _ _ => true
  | .cfgtxSysOn _ _ => true
  | .cfgtxPwmDuty _ _ => true
  | .cfgtxBlinkOff _ _ => true
  | .cfgtxLedOn _ _ => true
  | .wrtx _ _ => true
  | .busopNone => true
  | .busopBusInit => true
  | .busopAttach _ => true
  | .busopDetach => true
  | .busopAwait => true

end Sys2Proof
end

