-- ==== Sys2Proof/Decode.lean ====
section
/-!
DEFINITION. The encodings of rules R70 to R75, R81 and R83, the decoder from bytes and the encoder written from the same
tables. The five kinds of word are not distinguished by their bits (every STATE code of 4 bits has the bits of some BUSOP
code, and a CFGTX header is all operand, R85): what a word is follows from where it stands, so the decoder takes the place
as an argument.
-/

namespace Sys2Proof

/-- Where a word stands: in `current` (STATE); as the header of the record that the state sending command k queues under
the config profile (CFGTX); as the header of a record queued under the refresh profile (WRTX); on the operation ports
(BUSOP) (R71, R83). -/
inductive Format where
  | state
  | cfgtx (k : CfgCommand)
  | wrtx
  | busop
  deriving DecidableEq, Repr

/-- Why a word is rejected. -/
inductive DecodeError where
  /-- Not the format's number of bytes. -/
  | wrongLength
  /-- A bit outside the format's fields is set (R71). -/
  | unusedBits
  /-- `op_code` 6 or 7, never driven (R81, U13). -/
  | reservedOpCode
  /-- `op_profile` or a `tx_` port is not 0 under an operation that does not drive it (R41). -/
  | undrivenPort
  /-- `tx_len` other than 0 and 128 (R82 (d), U13). -/
  | reservedTxLength
  /-- bit 7 of `tx_addr` set in a record of the refresh profile (R41). -/
  | wideTxAddress
  deriving DecidableEq, Repr

/-! ## Numbers and bytes -/

/-- The number whose bytes, least significant first, are the list. -/
def numberOf : List Byte → Nat
  | [] => 0
  | b :: bs => b.toNat + 256 * numberOf bs

/-- The n low bytes of w, least significant first. -/
def bytesOf : Nat → Nat → List Byte
  | 0, _ => []
  | n + 1, w => BitVec.ofNat 8 w :: bytesOf n (w / 256)

/-! ## State tags (R70) -/

/-- The 4-bit code of a tag (R70). -/
def Tag.code : Tag → BitVec 4
  | .initPeripheral => 0#4
  | .setCfgProtocolFormat => 1#4
  | .cfgSysDis => 2#4
  | .cfgComOption => 3#4
  | .cfgMasterMode => 4#4
  | .cfgSysOn => 5#4
  | .cfgPwmMode => 6#4
  | .cfgBlinkMode => 7#4
  | .cfgLedOn => 8#4
  | .cancelCfgProtocolFormat => 9#4
  | .setWriteProtocolFormat => 10#4
  | .refresh => 11#4
  | .prepareReinit => 12#4
  | .waitDriverReady => 13#4
  | .cancelCfgOffMode => 14#4
  | .offMode => 15#4

/-- The tag of a code (R70). All sixteen codes are assigned (R82 (a)). -/
def Tag.ofCode : Nat → Option Tag
  | 0 => some .initPeripheral
  | 1 => some .setCfgProtocolFormat
  | 2 => some .cfgSysDis
  | 3 => some .cfgComOption
  | 4 => some .cfgMasterMode
  | 5 => some .cfgSysOn
  | 6 => some .cfgPwmMode
  | 7 => some .cfgBlinkMode
  | 8 => some .cfgLedOn
  | 9 => some .cancelCfgProtocolFormat
  | 10 => some .setWriteProtocolFormat
  | 11 => some .refresh
  | 12 => some .prepareReinit
  | 13 => some .waitDriverReady
  | 14 => some .cancelCfgOffMode
  | 15 => some .offMode
  | _ => none

/-- The instruction a tag stands for: the state's action in one tick (R4). -/
def Tag.instr : Tag → Instr
  | .initPeripheral => .initPeripheral
  | .setCfgProtocolFormat => .setCfgProtocolFormat
  | .cfgSysDis => .cfgSysDis
  | .cfgComOption => .cfgComOption
  | .cfgMasterMode => .cfgMasterMode
  | .cfgSysOn => .cfgSysOn
  | .cfgPwmMode => .cfgPwmMode
  | .cfgBlinkMode => .cfgBlinkMode
  | .cfgLedOn => .cfgLedOn
  | .cancelCfgProtocolFormat => .cancelCfgProtocolFormat
  | .setWriteProtocolFormat => .setWriteProtocolFormat
  | .refresh => .refresh
  | .prepareReinit => .prepareReinit
  | .waitDriverReady => .waitDriverReady
  | .cancelCfgOffMode => .cancelCfgOffMode
  | .offMode => .offMode

/-! ## Profiles and headers (R72, R73, R83) -/

/-- `command_bits` of a profile (R72). -/
def Profile.commandBits : Profile → Nat
  | .config => 3
  | .refresh => 3

/-- `address_bits` of a profile (R72). -/
def Profile.addressBits : Profile → Nat
  | .config => 8
  | .refresh => 7

/-- Header bits of a record under a profile: command and address (R72). -/
def Profile.headerBits (p : Profile) : Nat :=
  p.commandBits + p.addressBits

/-- Half duplex: no record has a receive part (R72, R73). -/
def Profile.halfDuplex : Profile → Bool
  | .config => true
  | .refresh => true

/-- The chip-select line of a profile: both share the one line (R33, R72). -/
def Profile.chipSelect : Profile → Nat
  | .config => 0
  | .refresh => 0

/-- Payload bits of every record under a profile (R72): no data phase, or 128 bits. -/
def Profile.payloadBits : Profile → Nat
  | .config => 0
  | .refresh => wrLenBits

/-- A header as one number, `cmd` above `addr` (R71, R85). -/
def joinHeader (p : Profile) (cmd addr : Nat) : Nat :=
  cmd * 2 ^ p.addressBits + addr

/-- The command field of a header (R73, R85). -/
def headerCmd (p : Profile) (w : Nat) : Nat :=
  w / 2 ^ p.addressBits

/-- The address field of a header (R73, R85). -/
def headerAddr (p : Profile) (w : Nat) : Nat :=
  w % 2 ^ p.addressBits

/-! ## Operation codes (R81) -/

/-- `op_profile`: 0 = `P_CONFIG`, 1 = `P_REFRESH` (R41). -/
def Profile.code : Profile → BitVec 1
  | .config => 0#1
  | .refresh => 1#1

/-- The operation ports as one number, `op_code` lowest and then `op_profile`, `tx_cmd`, `tx_addr`, `tx_len` in the order
of R41's table. -/
def joinPorts (op profile cmd addr len : Nat) : Nat :=
  op + 8 * (profile + 2 * (cmd + 8 * (addr + 256 * len)))

/-! ## The decoder -/

/-- A STATE word: one byte, its upper four bits 0 (R70). -/
def decodeState (bytes : List Byte) : Except DecodeError Instr :=
  if bytes.length ≠ 1 then .error .wrongLength
  else
    match Tag.ofCode (numberOf bytes) with
    | some t => .ok t.instr
    | none => .error .unusedBits

/-- The CFGTX instruction of a command with its header fields (R74). -/
def cfgtxInstr (k : CfgCommand) (cmd : BitVec 3) (addr : BitVec 8) : Instr :=
  match k with
  | .sysDis => .cfgtxSysDis cmd addr
  | .comOption => .cfgtxComOption cmd addr
  | .masterMode => .cfgtxMasterMode cmd addr
  | .sysOn => .cfgtxSysOn cmd addr
  | .pwmDuty => .cfgtxPwmDuty cmd addr
  | .blinkOff => .cfgtxBlinkOff cmd addr
  | .ledOn => .cfgtxLedOn cmd addr

/-- A CFGTX header: two bytes holding 3 + 8 bits (R74, R85). -/
def decodeCfgtx (k : CfgCommand) (bytes : List Byte) : Except DecodeError Instr :=
  let w := numberOf bytes
  if bytes.length ≠ 2 then .error .wrongLength
  else if 2 ^ Profile.config.headerBits ≤ w then .error .unusedBits
  else .ok (cfgtxInstr k (BitVec.ofNat 3 (headerCmd .config w)) (BitVec.ofNat 8 (headerAddr .config w)))

/-- A WRTX header: two bytes holding 3 + 7 bits (R75, R85). -/
def decodeWrtx (bytes : List Byte) : Except DecodeError Instr :=
  let w := numberOf bytes
  if bytes.length ≠ 2 then .error .wrongLength
  else if 2 ^ Profile.refresh.headerBits ≤ w then .error .unusedBits
  else .ok (.wrtx (BitVec.ofNat 3 (headerCmd .refresh w)) (BitVec.ofNat 7 (headerAddr .refresh w)))

/-- An operation without operand ports: they are all 0 (R41: "otherwise 0"). -/
def bareOp (rest : Nat) (i : Instr) : Except DecodeError Instr :=
  if rest = 0 then .ok i else .error .undrivenPort

/-- ATTACH: `op_profile` selects the profile, the `tx_` ports are 0 (R41). -/
def decodeAttach (rest : Nat) : Except DecodeError Instr :=
  match rest with
  | 0 => .ok (.busopAttach .config)
  | 1 => .ok (.busopAttach .refresh)
  | _ => .error .undrivenPort

/-- QUEUE: `op_profile` is 0 and the `tx_` ports carry the record (R41). -/
def decodeQueue (rest : Nat) : Except DecodeError Instr :=
  let cmd := BitVec.ofNat 3 (rest / 2)
  let addr := BitVec.ofNat 8 (rest / 16)
  let len := BitVec.ofNat 8 (rest / 4096)
  if rest % 2 ≠ 0 then .error .undrivenPort
  else if 2 ^ 20 ≤ rest then .error .unusedBits
  else if !txLengthOk len then .error .reservedTxLength
  else if !txAddrOk addr len then .error .wideTxAddress
  else .ok (.busopQueue cmd addr len)

/-- An operation word: three bytes holding the operation ports (R41, R81). -/
def decodeBusop (bytes : List Byte) : Except DecodeError Instr :=
  let w := numberOf bytes
  if bytes.length ≠ 3 then .error .wrongLength
  else
    match w % 8 with
    | 0 => bareOp (w / 8) .busopNone
    | 1 => bareOp (w / 8) .busopBusInit
    | 2 => decodeAttach (w / 8)
    | 3 => bareOp (w / 8) .busopDetach
    | 4 => decodeQueue (w / 8)
    | 5 => bareOp (w / 8) .busopAwait
    | _ => .error .reservedOpCode

/-- The decoder: total, rejecting by name. -/
def decode (f : Format) (bytes : List Byte) : Except DecodeError Instr :=
  match f with
  | .state => decodeState bytes
  | .cfgtx k => decodeCfgtx k bytes
  | .wrtx => decodeWrtx bytes
  | .busop => decodeBusop bytes

/-! ## The encoder -/

/-- The byte that holds a tag's code (R70). -/
def encodeState (t : Tag) : List Byte :=
  bytesOf 1 t.code.toNat

/-- Where an instruction's word stands, and its bytes (R70, R74, R75, R81). -/
def encode : Instr → Format × List Byte
  | .initPeripheral => (.state, encodeState .initPeripheral)
  | .setCfgProtocolFormat => (.state, encodeState .setCfgProtocolFormat)
  | .cfgSysDis => (.state, encodeState .cfgSysDis)
  | .cfgComOption => (.state, encodeState .cfgComOption)
  | .cfgMasterMode => (.state, encodeState .cfgMasterMode)
  | .cfgSysOn => (.state, encodeState .cfgSysOn)
  | .cfgPwmMode => (.state, encodeState .cfgPwmMode)
  | .cfgBlinkMode => (.state, encodeState .cfgBlinkMode)
  | .cfgLedOn => (.state, encodeState .cfgLedOn)
  | .cancelCfgProtocolFormat => (.state, encodeState .cancelCfgProtocolFormat)
  | .setWriteProtocolFormat => (.state, encodeState .setWriteProtocolFormat)
  | .refresh => (.state, encodeState .refresh)
  | .prepareReinit => (.state, encodeState .prepareReinit)
  | .waitDriverReady => (.state, encodeState .waitDriverReady)
  | .cancelCfgOffMode => (.state, encodeState .cancelCfgOffMode)
  | .offMode => (.state, encodeState .offMode)
  | .cfgtxSysDis cmd addr => (.cfgtx .sysDis, bytesOf 2 (joinHeader .config cmd.toNat addr.toNat))
  | .cfgtxComOption cmd addr => (.cfgtx .comOption, bytesOf 2 (joinHeader .config cmd.toNat addr.toNat))
  | .cfgtxMasterMode cmd addr => (.cfgtx .masterMode, bytesOf 2 (joinHeader .config cmd.toNat addr.toNat))
  | .cfgtxSysOn cmd addr => (.cfgtx .sysOn, bytesOf 2 (joinHeader .config cmd.toNat addr.toNat))
  | .cfgtxPwmDuty cmd addr => (.cfgtx .pwmDuty, bytesOf 2 (joinHeader .config cmd.toNat addr.toNat))
  | .cfgtxBlinkOff cmd addr => (.cfgtx .blinkOff, bytesOf 2 (joinHeader .config cmd.toNat addr.toNat))
  | .cfgtxLedOn cmd addr => (.cfgtx .ledOn, bytesOf 2 (joinHeader .config cmd.toNat addr.toNat))
  | .wrtx cmd addr => (.wrtx, bytesOf 2 (joinHeader .refresh cmd.toNat addr.toNat))
  | .busopNone => (.busop, bytesOf 3 (joinPorts 0 0 0 0 0))
  | .busopBusInit => (.busop, bytesOf 3 (joinPorts 1 0 0 0 0))
  | .busopAttach p => (.busop, bytesOf 3 (joinPorts 2 p.code.toNat 0 0 0))
  | .busopDetach => (.busop, bytesOf 3 (joinPorts 3 0 0 0 0))
  | .busopQueue cmd addr len => (.busop, bytesOf 3 (joinPorts 4 0 cmd.toNat addr.toNat len.toNat))
  | .busopAwait => (.busop, bytesOf 3 (joinPorts 5 0 0 0 0))

/-! ## Words as the opcode table numbers them -/

/-- The format of a row of the table by the number of its bits: exact (R85: 4, 11, 10, 3), or rounded up to whole bytes,
where 8 bits is read as STATE, the only word the block fetches, and 16 bits as a CFGTX header. -/
def tableFormat : Nat → Option Format
  | 3 => some .busop
  | 4 => some .state
  | 8 => some .state
  | 10 => some .wrtx
  | 11 => some (.cfgtx .sysDis)
  | 16 => some (.cfgtx .sysDis)
  | 24 => some .busop
  | _ => none

/-- The number of bytes of a format's words. -/
def Format.bytes : Format → Nat
  | .state => 1
  | .cfgtx _ => 2
  | .wrtx => 2
  | .busop => 3

/-- The instruction the decoder reads from a word of nbits bits numbered as the table numbers them. -/
def decodeTableWord (nbits w : Nat) : Option Instr :=
  match tableFormat nbits with
  | none => none
  | some f => if w < 2 ^ nbits then (decode f (bytesOf f.bytes w)).toOption else none

end Sys2Proof
end

