-- ==== Sys2Proof/Machine/State.lean ====
section
/-!
DEFINITION. The state of the machine as plain data (R20), the outcomes' reasons, and the state after reset (R43, R190).
-/

namespace Sys2Proof.Machine

/-- A table with natural-number keys in one canonical form: keys strictly rising. An unlisted key has no value of its own;
where one is needed it is a free value (notes/assumptions/3.md). -/
abbrev Table (α : Type) := List (Nat × α)

/-- Byte memory: the spaces `BUF` and `ICONS` (R50), as cells of address and byte. -/
abbrev Memory := List Host.Cell

/-- The device handle when one is attached: the profile it was attached under and the token the transport answered with,
which the block never inspects (R26, D26). -/
structure Handle where
  profile : Profile
  token   : Nat
  deriving DecidableEq, Repr

/-- A transaction record (R73). `addr` is 8 bits wide as on the port `tx_addr`, with bit 7 = 0 under the refresh profile
(R41); `length` counts payload bits; `payload` holds `length`/8 bytes, byte 0 first (R52). -/
structure Tx where
  cmd     : BitVec 3
  addr    : BitVec 8
  length  : Nat
  payload : List Byte
  deriving DecidableEq, Repr

/-- A bus operation as the operation ports present it (R81, R101). -/
inductive BusOp where
  | none
  | busInit
  | attach (p : Profile)
  | detach
  | queue (tx : Tx)
  | await
  deriving DecidableEq, Repr

/-- The three logged classes of transport-setup failure (R161, D20). -/
inductive LogClass where
  | busInit
  | attach
  | detach
  deriving DecidableEq, Repr

/-- The sub-causes of TransportSetupFailure, one per raising state (R161). -/
inductive FailureCause where
  | busInit
  | attachConfig
  | attachRefresh
  | detachConfig
  | detachRefresh
  | detachOff
  deriving DecidableEq, Repr

/-- Operation events: what the block emits in a tick, in order (R40, R86, R206). -/
inductive Event where
  | busInitialize (busCfg : Nat)
  | attachDevice (p : Profile)
  | detachDevice (handle : Option Handle)
  | queueTransaction (handle : Option Handle) (tx : Tx) (timeout : Option Nat)
  | awaitResult (handle : Option Handle)
  | nowMicros (value : Micros)
  | log (cls : LogClass) (tag : Tag)
  deriving DecidableEq, Repr

/-- The output ports of R41 as the last edge drove them: on an edge with a tick, its operation and log, and `current` as
the tick found it (R21); on an edge without, `idleEdge`. -/
structure OutPorts where
  opCode    : BitVec 3
  opProfile : BitVec 1
  txCmd     : BitVec 3
  txAddr    : BitVec 8
  txLen     : BitVec 8
  txData    : BitVec 128
  logValid  : Bool
  logClass  : BitVec 2
  stateDbg  : BitVec 4
  deriving DecidableEq, Repr

/-- The shared display state (R28 to R31): the environment writes it, the Encoder reads it, the worker never writes it
(R170). -/
structure Shared where
  /-- `DIGIT[0..4]` (R28). -/
  digits     : PerDigit DisplayDigit
  /-- `DBLINK[0..4]` (R29). -/
  digitBlink : PerDigit BlinkState
  /-- `IBLINK`: the elements written since reset; the others hold their compiled-in default (R29, R43). -/
  iconBlink  : Table BlinkState
  /-- `ICONS`: the bytes written since reset; the others hold their compiled-in default (R31, R43). -/
  icons      : Memory
  deriving DecidableEq, Repr

/-- Why the machine stops. The block has no fault outcome of its own (R11): the one reason is an access that names no
element of an address space. -/
inductive Fault where
  /-- Raised by the step when the scenario's environment writes an element that rule R50's index ranges do not have
  (an icon at or above `ICON_COUNT`, a bitmap byte at or above `ICON_BITMAP_BYTES`). Safe: the spec has no such move. -/
  | noSuchElement (space : Space) (index : Nat)
  deriving DecidableEq, Repr

/-- Why a request is turned away. -/
inductive Refusal where
  /-- An instruction without a meaning; exec has no such arm. Safe. -/
  | notModelled (mnemonic : String)
  /-- Raised by the step if the word in `current` did not decode; no tag's word does so (R82 (a)). Safe. -/
  | undecodable (reason : DecodeError)
  /-- Raised by `Machine.powerUp` on parameters that break R142, U11 or U12: the configuration is refused (R11). Safe. -/
  | illFormedConfiguration
  deriving DecidableEq, Repr

/-- The whole machine: the block's registers (R21 to R27), its constants (R32 to R35), the shared display state (R28 to
R31), the transport's state as far as the rules name it (R36, R43), the ports of R41, and the scenario that supplies the
environment's answers (R4, R86). -/
structure State where
  /-- The constants: `SEGTAB`, `C_*` and the other parameters (R8, R32 to R34). Nothing writes them after reset. -/
  rom : Rom
  /-- The program counter: the tag of the state evaluated next (R21). -/
  current : Tag
  /-- The tag `current` held before it last changed (R22). -/
  previous : Tag
  /-- The link register of the rendezvous (R23). -/
  next : Tag
  /-- 1 until the first evaluation of REFRESH (R24). -/
  startupInit : Bool
  /-- The watchdog timer's start (R25). -/
  refreshPeriodStart : Micros
  /-- The device handle, none while detached (R26). -/
  handle : Option Handle
  /-- The TransactionBuffer `BUF[0..15]` (R27). -/
  buf : Memory
  /-- The shared display state (R28 to R31). -/
  shared : Shared
  /-- The bus peripheral has been initialised (R43, last row; R191). -/
  busInitialised : Bool
  /-- Transactions queued with answer ok and not yet awaited (R36). -/
  outstanding : Nat
  /-- The worker is blocked in an AwaitResult that has not returned (R11, R131). -/
  held : Bool
  /-- The output ports (R41). -/
  out : OutPorts
  /-- The input ports of the present edge (R41), with the environment's writes still to land in it. -/
  port : Input
  /-- The environment's answers for the coming edges, one each (R4, R86). Where it is empty the answers are free. -/
  scenario : List Input
  /-- The number of edges so far: the argument of the free values. The model's own field. -/
  tick : Nat
  /-- The operation events since reset, oldest first: the observation of rule R206. -/
  trace : List Event
  deriving DecidableEq, Repr

/-- The shared display state after the init entry (R43, R190 (2)): the default characters seeded, the rest at its
compiled-in defaults, which are any value. -/
def Shared.coldInit (rom : Rom) : Shared :=
  { digits :=
      { left1 := ⟨rom.val.defaultChar.left1, Config.defaultDecimalPoint.left1⟩
        left2 := ⟨rom.val.defaultChar.left2, Config.defaultDecimalPoint.left2⟩
        middle := ⟨rom.val.defaultChar.middle, Config.defaultDecimalPoint.middle⟩
        right1 := ⟨rom.val.defaultChar.right1, Config.defaultDecimalPoint.right1⟩
        right2 := ⟨rom.val.defaultChar.right2, Config.defaultDecimalPoint.right2⟩ }
    digitBlink := Config.defaultDigitBlink
    iconBlink := []
    icons := [] }

/-- The output ports when no operation has been presented (R81: NONE). -/
def OutPorts.idle : OutPorts :=
  { opCode := 0#3, opProfile := 0#1, txCmd := 0#3, txAddr := 0#8, txLen := 0#8, txData := 0#128,
    logValid := false, logClass := 0#2, stateDbg := 0#4 }

/-- The init entry point on edge n of a machine with constants `rom` (R43, R190). What the spec leaves unspecified is a
free value of the edge. -/
def State.coldInit (rom : Rom) (n : Nat) : State :=
  { rom := rom
    current := .initPeripheral
    previous := Config.resetPrevious n
    next := Config.resetNext n
    startupInit := true
    refreshPeriodStart := Config.resetPeriodStart n
    handle := none
    buf := []
    shared := Shared.coldInit rom
    busInitialised := false
    outstanding := 0
    held := false
    out := OutPorts.idle
    port := Input.quiet
    scenario := []
    tick := n
    trace := [] }

/-- The machine right after reset (R43, R190), with the OPEN parameters free. -/
def State.reset : State :=
  State.coldInit Config.rom 0

end Sys2Proof.Machine
end

