-- ==== Sys2Proof/Machine/Ops.lean ====
section
/-!
DEFINITION. The named operations over memory and registers that every meaning is made of: tables and byte memory (R50),
the environment's moves (R55, R59, R170), the operation ports and the event trace (R40, R41), control transfer (R102,
R103), the bus operations with their contracts (R104), taking a failure (R106, R160), reset (R190) and the edge's input.
-/

namespace Sys2Proof.Machine

/-! ## Tables and memory -/

/-- MemRead: what the table lists at a key, if anything (R10, R50). -/
def Table.read {α : Type} : Table α → Nat → Option α
  | [], _ => none
  | (a, v) :: rest, k => if a = k then some v else Table.read rest k

/-- MemWrite: one whole element at a key, keeping the keys rising (R10, R53). -/
def Table.write {α : Type} : Table α → Nat → α → Table α
  | [], k, v => [(k, v)]
  | (a, x) :: rest, k, v =>
    if k < a then (k, v) :: (a, x) :: rest
    else if k = a then (k, v) :: rest
    else (a, x) :: Table.write rest k v

/-- Every key is at least `low` and the keys rise strictly. -/
def Table.risingFrom {α : Type} : Nat → Table α → Bool
  | _, [] => true
  | low, (a, _) :: rest => decide (low ≤ a) && Table.risingFrom (a + 1) rest

/-- The canonical form of a table of a given size: keys strictly rising and inside the space's index range (R50). -/
def Table.wf {α : Type} (size : Nat) (t : Table α) : Bool :=
  Table.risingFrom 0 t && t.all fun e => decide (e.1 < size)

/-- The canonical form of a byte memory of a given size. -/
def Memory.wf (size : Nat) (m : Memory) : Bool :=
  Table.wf size m

/-- Byte a of `BUF`: what was written there, or the unspecified value it holds since reset (R27, R43). -/
def bufByte (buf : Memory) (a : Nat) : Byte :=
  (Table.read buf a).getD (Config.resetBuf a)

/-- The sixteen bytes of `BUF`, byte 0 first: the payload of a refresh transaction (R52, R75). -/
def payloadOf (buf : Memory) : List Byte :=
  (List.range bufBytes).map (bufByte buf)

/-- `ICON_BITMAP_BYTES` = floor(`ICON_COUNT`/8) + 1 (R31, U20). -/
def iconBitmapBytes (rom : Rom) : Nat :=
  rom.val.iconCount / 8 + 1

/-! ## The shared display state and the environment's moves -/

/-- Element d of a table of five (R28, R29). -/
def atDigit {α : Type} (p : PerDigit α) : Fin 5 → α
  | 0 => p.left1
  | 1 => p.left2
  | 2 => p.middle
  | 3 => p.right1
  | 4 => p.right2

/-- A table of five with element d replaced. -/
def setDigit {α : Type} (p : PerDigit α) (d : Fin 5) (v : α) : PerDigit α :=
  match d with
  | 0 => { p with left1 := v }
  | 1 => { p with left2 := v }
  | 2 => { p with middle := v }
  | 3 => { p with right1 := v }
  | 4 => { p with right2 := v }

/-- `IBLINK[i]`: what was written there, or its compiled-in default (R29, R43). -/
def iconBlinkOf (sh : Shared) (i : Nat) : BlinkState :=
  (Table.read sh.iconBlink i).getD (Config.defaultIconBlink i)

/-- Byte k of `ICONS`: what was written there, or its compiled-in default (R31, R43). -/
def iconsByte (sh : Shared) (k : Nat) : Byte :=
  (Table.read sh.icons k).getD (Config.defaultIcons k)

/-- The bitmap bit of icon i: bit i mod 8 of byte floor(i/8) (R31, R80). No rule reads it (R147, D16). -/
def iconBit (sh : Shared) (i : Nat) : Bool :=
  (iconsByte sh (i / 8)).getLsbD (i % 8)

/-- One write of the application or the blink timer: one whole element (R55, R170 (ii)). -/
def applyWrite (sh : Shared) : EnvWrite → Shared
  | .digit d v => { sh with digits := setDigit sh.digits d v }
  | .digitBlink d v => { sh with digitBlink := setDigit sh.digitBlink d v }
  | .iconBlink i v => { sh with iconBlink := Table.write sh.iconBlink i v }
  | .icons k v => { sh with icons := Table.write sh.icons k v }

/-- The writes of one phase, in order. -/
def applyPhase (sh : Shared) (phase : List EnvWrite) : Shared :=
  phase.foldl applyWrite sh

/-- The writes of several phases, in order. -/
def applyPhases (sh : Shared) (phases : List (List EnvWrite)) : Shared :=
  phases.foldl applyPhase sh

/-- The environment's writes between two shared reads: the next phase lands (R59). -/
def envMove (s : State) : State :=
  { s with
    shared := applyPhases s.shared (s.port.moves.take 1)
    port := { s.port with moves := s.port.moves.drop 1 } }

/-- The rest of the edge's writes: every phase left lands (R59). -/
def settle (s : State) : State :=
  { s with
    shared := applyPhases s.shared s.port.moves
    port := { s.port with moves := [] } }

/-- The element a write names that rule R50's index ranges do not have, if it names one. -/
def missingElement (rom : Rom) : EnvWrite → Option (Space × Nat)
  | .digit _ _ => none
  | .digitBlink _ _ => none
  | .iconBlink i _ => if i < rom.val.iconCount then none else some (.iconBlink, i)
  | .icons k _ => if k < iconBitmapBytes rom then none else some (.icons, k)

/-- The first such element among the writes of an edge. -/
def firstMissing (rom : Rom) (moves : List (List EnvWrite)) : Option (Space × Nat) :=
  moves.flatten.findSome? (missingElement rom)

/-! ## Operation ports and events -/

/-- `op_code` of an operation (R81). -/
def BusOp.code : BusOp → BitVec 3
  | .none => 0#3
  | .busInit => 1#3
  | .attach _ => 2#3
  | .detach => 3#3
  | .queue _ => 4#3
  | .await => 5#3

/-- `op_profile`: the profile of an ATTACH, otherwise 0 (R41). -/
def BusOp.profileCode : BusOp → BitVec 1
  | .attach p => p.code
  | .none => 0#1
  | .busInit => 0#1
  | .detach => 0#1
  | .queue _ => 0#1
  | .await => 0#1

/-- The record of a QUEUE (R41); under another operation the `tx_` ports are 0. -/
def BusOp.record : BusOp → Tx
  | .queue tx => tx
  | .none => ⟨0#3, 0#8, 0, []⟩
  | .busInit => ⟨0#3, 0#8, 0, []⟩
  | .attach _ => ⟨0#3, 0#8, 0, []⟩
  | .detach => ⟨0#3, 0#8, 0, []⟩
  | .await => ⟨0#3, 0#8, 0, []⟩

/-- The ports an operation drives (R41): `tx_data[8s+7:8s]` = payload byte s; no failure logged yet. -/
def OutPorts.driving (current : Tag) (o : BusOp) : OutPorts :=
  { opCode := o.code
    opProfile := o.profileCode
    txCmd := o.record.cmd
    txAddr := o.record.addr
    txLen := BitVec.ofNat 8 o.record.length
    txData := BitVec.ofNat 128 (numberOf o.record.payload)
    logValid := false
    logClass := 0#2
    stateDbg := current.code }

/-- The event of an operation (R40): its arguments are the constant `BUSCFG`, the profile, the held handle, the record
and `QUEUE_TIMEOUT`. No operation is no event. -/
def BusOp.events (s : State) : BusOp → List Event
  | .none => []
  | .busInit => [.busInitialize s.rom.val.busCfg]
  | .attach p => [.attachDevice p]
  | .detach => [.detachDevice s.handle]
  | .queue tx => [.queueTransaction s.handle tx s.rom.val.queueTimeout]
  | .await => [.awaitResult s.handle]

/-- One more event of the tick (R60: in the order the rule's pseudocode lists them). -/
def emit (s : State) (e : Event) : State :=
  { s with trace := s.trace ++ [e] }

/-- Present an operation: drive the ports and issue its event (R40, R41). -/
def present (o : BusOp) (s : State) : State :=
  { s with out := OutPorts.driving s.current o, trace := s.trace ++ o.events s }

/-- The environment's answer to the operation of this edge: ok (`rsp_ok` = 1) or error (R41, R104). -/
def answeredOk (s : State) : Bool :=
  s.port.rspOk

/-- `NowMicros()`: the edge's clock value, any 64-bit number (R104, R172). -/
def now (s : State) : Micros :=
  s.port.nowUs

/-- The clock read as an event (R40). -/
def readClock (s : State) : State :=
  emit s (.nowMicros (now s))

/-- The ports of an edge that evaluates nothing (R41): `state_dbg` is `current`, no failure is logged, and no operation is
presented, but for an AwaitResult that is still pending. -/
def idlePorts (s : State) : OutPorts :=
  OutPorts.driving s.current (if s.held then .await else .none)

/-- An edge that evaluates nothing (R41: `tick_en` = 0): the ports alone change. -/
def idleEdge (s : State) : State :=
  { s with out := idlePorts s }

/-! ## Control transfer -/

/-- `pc <- S` (R102). -/
def goto (S : Tag) (s : State) : State :=
  if S = s.current then s else { s with previous := s.current, current := S }

/-- `wait_then(S)` (R103). -/
def waitThen (S : Tag) (s : State) : State :=
  goto .waitDriverReady { s with next := S }

/-- `refreshPeriodStart <- now` (R113, R114). -/
def startPeriod (s : State) : State :=
  { s with refreshPeriodStart := now s }

/-! ## The bus operations (R104) -/

/-- `BusInitialize(BUSCFG)`: ok leaves the peripheral usable, error nothing. -/
def busInitialize (s : State) : State :=
  let s' := present .busInit s
  if answeredOk s then { s' with busInitialised := true } else s'

/-- `AttachDevice(p)`: ok gives the handle (p, token), error leaves it (D10). -/
def attachDevice (p : Profile) (s : State) : State :=
  let s' := present (.attach p) s
  if answeredOk s then { s' with handle := some ⟨p, s.port.token⟩ } else s'

/-- `DetachDevice(handle)`: ok clears the handle, error leaves it (D10). Without a handle the operation is issued all the
same and the answer is the environment's (R115, U17). -/
def detachDevice (s : State) : State :=
  let s' := present .detach s
  if answeredOk s then { s' with handle := none } else s'

/-- `QueueTransaction(handle, tx)`: ok puts one transaction outstanding, error queues nothing. The answer is otherwise not
examined (D8). -/
def queueTransaction (tx : Tx) (s : State) : State :=
  let s' := present (.queue tx) s
  if answeredOk s then { s' with outstanding := s.outstanding + 1 } else s'

/-- `AwaitResult(handle)` on an edge where it has not returned: the worker is held (R131). The call was issued when the
hold began, so a hold that goes on issues no further event. -/
def awaitPending (s : State) : State :=
  let s' := present .await s
  { s' with trace := if s.held then s.trace else s'.trace, held := true }

/-- `AwaitResult(handle)` on the edge where it returns: one transaction fewer outstanding, not below 0; what it returns is
not examined (R104, R131, D9). -/
def awaitReturned (s : State) : State :=
  { awaitPending s with held := false, outstanding := s.outstanding - 1 }

/-- `AwaitResult(handle)`: returned when `rsp_valid` = 1 (R41). -/
def awaitResult (s : State) : State :=
  if s.port.rspValid then awaitReturned s else awaitPending s

/-! ## Taking a failure (R106, R160 to R162) -/

/-- The logged class of a sub-cause (R161). -/
def FailureCause.cls : FailureCause → LogClass
  | .busInit => .busInit
  | .attachConfig => .attach
  | .attachRefresh => .attach
  | .detachConfig => .detach
  | .detachRefresh => .detach
  | .detachOff => .detach

/-- `log_class` of a class (R161, D20). -/
def LogClass.code : LogClass → BitVec 2
  | .busInit => 0#2
  | .attach => 1#2
  | .detach => 2#2

/-- `raise TransportSetupFailure(cause)`: one Log event with the class and `current`, and no other state changes (R106,
R160). What the block has of a failure's entry is this; recovery is the next evaluation of the same state (R173). -/
def raiseFailure (cause : FailureCause) (s : State) : State :=
  { s with
    out := { s.out with logValid := true, logClass := cause.cls.code }
    trace := s.trace ++ [.log cause.cls s.current] }

/-! ## Reset and the edge's input -/

/-- Power-up with given parameters: the state after the init entry point (R190), or the refusal of an ill-formed
configuration (R11, R142, U11, U12). -/
def powerUp (p : Params) : Host.Outcome State Fault Refusal :=
  if h : p.wf = true then .next (State.coldInit ⟨p, h⟩ 0) else .refused .illFormedConfiguration

/-- `rst` = 1 on an edge: the init entry point is applied (R41, R190). Only the constants survive; the ports and the
scenario are the environment's. -/
def resetEdge (s : State) : State :=
  { State.coldInit s.rom s.tick with port := s.port, scenario := s.scenario }

/-- The environment's answers where no scenario fixes them: free, except that a run has one reset (R191), that every edge
evaluates (an edge with `tick_en` = 0 is only time passing, R203), and that a write names an element that exists (R50). -/
def freeInput (rom : Rom) (n : Nat) : Input :=
  { Config.freeInput n with
    rst := false
    tickEn := true
    moves := (Config.freeInput n).moves.map fun ph => ph.filter fun w => (missingElement rom w).isNone }

/-- The input ports take an edge's values. -/
def latch (s : State) (i : Input) (rest : List Input) : State :=
  { s with port := i, scenario := rest, tick := s.tick + 1 }

/-- The input of the next edge: the scenario's, or free where it has none (R4). A write to an element that does not exist
stops the machine (R50). -/
def latchInput (s : State) : Except Fault State :=
  match s.scenario with
  | [] => .ok (latch s (freeInput s.rom s.tick) [])
  | i :: rest =>
    match firstMissing s.rom i.moves with
    | some (space, k) => .error (.noSuchElement space k)
    | none => .ok (latch s i rest)

/-- The word fetched: the byte that holds the code of `current` (R4, R64). -/
def fetchWord (s : State) : List Byte :=
  encodeState s.current

/-! ## Placing an instruction -/

/-- The constants with a configuration command replaced, where the result is well formed. -/
def withCommand (rom : Rom) (k : CfgCommand) (c : CommandConst) : Rom :=
  let p : Params :=
    match k with
    | .sysDis => { rom.val with sysDis := c }
    | .comOption => { rom.val with comOption := c }
    | .masterMode => { rom.val with masterMode := c }
    | .sysOn => { rom.val with sysOn := c }
    | .pwmDuty => { rom.val with pwmDuty := c }
    | .blinkOff => { rom.val with blinkOff := c }
    | .ledOn => { rom.val with ledOn := c }
  if h : p.wf = true then ⟨p, h⟩ else rom

/-- The constants with the refresh command replaced, where the result is well formed. -/
def withWriteCommand (rom : Rom) (c : CommandConst) : Rom :=
  let p : Params := { rom.val with write := c }
  if h : p.wf = true then ⟨p, h⟩ else rom

/-- The state that sends a configuration command (R74). -/
def commandSender : CfgCommand → Tag
  | .sysDis => .cfgSysDis
  | .comOption => .cfgComOption
  | .masterMode => .cfgMasterMode
  | .sysOn => .cfgSysOn
  | .pwmDuty => .cfgPwmMode
  | .blinkOff => .cfgBlinkMode
  | .ledOn => .cfgLedOn

/-- The machine about to send a configuration command with given header fields. -/
def aboutToSend (k : CfgCommand) (cmd : BitVec 3) (addr : BitVec 8) (s : State) : State :=
  { s with
    rom := withCommand s.rom k ⟨cmd.toNat, addr.toNat⟩
    current := commandSender k
    startupInit := s.startupInit || decide (k = .sysDis) }

/-- The machine about to send a frame with given header fields: the window of the watchdog is young. -/
def aboutToSendFrame (cmd : BitVec 3) (addr : BitVec 7) (s : State) : State :=
  { s with
    rom := withWriteCommand s.rom ⟨cmd.toNat, addr.toNat⟩
    current := .refresh
    refreshPeriodStart := Input.allOk.nowUs }

/-- The machine about to execute an instruction. The block fetches `current` and nothing else, so a tag is put there; a
transaction or a bus operation is executed by the state that issues it, with the constants it sends. -/
def aboutToRun (i : Instr) (s : State) : State :=
  match i with
  | .initPeripheral => { s with current := .initPeripheral }
  | .setCfgProtocolFormat => { s with current := .setCfgProtocolFormat }
  | .cfgSysDis => { s with current := .cfgSysDis }
  | .cfgComOption => { s with current := .cfgComOption }
  | .cfgMasterMode => { s with current := .cfgMasterMode }
  | .cfgSysOn => { s with current := .cfgSysOn }
  | .cfgPwmMode => { s with current := .cfgPwmMode }
  | .cfgBlinkMode => { s with current := .cfgBlinkMode }
  | .cfgLedOn => { s with current := .cfgLedOn }
  | .cancelCfgProtocolFormat => { s with current := .cancelCfgProtocolFormat }
  | .setWriteProtocolFormat => { s with current := .setWriteProtocolFormat }
  | .refresh => { s with current := .refresh }
  | .prepareReinit => { s with current := .prepareReinit }
  | .waitDriverReady => { s with current := .waitDriverReady }
  | .cancelCfgOffMode => { s with current := .cancelCfgOffMode }
  | .offMode => { s with current := .offMode }
  | .cfgtxSysDis cmd addr => aboutToSend .sysDis cmd addr s
  | .cfgtxComOption cmd addr => aboutToSend .comOption cmd addr s
  | .cfgtxMasterMode cmd addr => aboutToSend .masterMode cmd addr s
  | .cfgtxSysOn cmd addr => aboutToSend .sysOn cmd addr s
  | .cfgtxPwmDuty cmd addr => aboutToSend .pwmDuty cmd addr s
  | .cfgtxBlinkOff cmd addr => aboutToSend .blinkOff cmd addr s
  | .cfgtxLedOn cmd addr => aboutToSend .ledOn cmd addr s
  | .wrtx cmd addr => aboutToSendFrame cmd addr s
  | .busopNone => { s with current := .offMode }
  | .busopBusInit => { s with current := .initPeripheral }
  | .busopAttach .config => { s with current := .setCfgProtocolFormat }
  | .busopAttach .refresh => { s with current := .setWriteProtocolFormat }
  | .busopDetach => { s with current := .cancelCfgProtocolFormat }
  | .busopQueue cmd addr len =>
    if len = 128#8 then aboutToSendFrame cmd (addr.setWidth 7) s else aboutToSend .comOption cmd addr s
  | .busopAwait => { s with current := .waitDriverReady }

/-- An enabled edge comes next, every answer ok: what the very next step takes to evaluate `current` and complete. -/
def withEnabledEdge (s : State) : State :=
  { s with scenario := Input.allOk :: s.scenario }

end Sys2Proof.Machine
end

