-- ==== Sys2Proof/Machine/Operands.lean ====
section
/-!
DEFINITION. The operand forms: the transaction records and where their fields come from (R73 to R76), the Encoder's
snapshot reads of the shared display state in program order (R54, R55), and the segment table look-up (R142, R144).
-/

namespace Sys2Proof.Machine

/-! ## Constants and records -/

/-- The constant of a configuration command (R34). -/
def commandConst (rom : Rom) : CfgCommand → CommandConst
  | .sysDis => rom.val.sysDis
  | .comOption => rom.val.comOption
  | .masterMode => rom.val.masterMode
  | .sysOn => rom.val.sysOn
  | .pwmDuty => rom.val.pwmDuty
  | .blinkOff => rom.val.blinkOff
  | .ledOn => rom.val.ledOn

/-- A configuration record: zero payload, everything in the header (R74). -/
def cfgRecord (cmd : BitVec 3) (addr : BitVec 8) : Tx :=
  { cmd := cmd, addr := addr, length := Profile.config.payloadBits, payload := [] }

/-- `CFGTX(C)` of a command (R74). -/
def cfgtx (rom : Rom) (k : CfgCommand) : Tx :=
  cfgRecord (BitVec.ofNat 3 (commandConst rom k).cmd) (BitVec.ofNat 8 (commandConst rom k).addr)

/-- A refresh record: a 7-bit address and the sixteen bytes of `BUF` (R75). -/
def writeRecord (cmd : BitVec 3) (addr : BitVec 7) (buf : Memory) : Tx :=
  { cmd := cmd, addr := addr.setWidth 8, length := Profile.refresh.payloadBits, payload := payloadOf buf }

/-- `WRTX` (R75, R148). -/
def wrtx (rom : Rom) (buf : Memory) : Tx :=
  writeRecord (BitVec.ofNat 3 rom.val.write.cmd) (BitVec.ofNat 7 rom.val.write.addr) buf

/-- The record the operation ports of a QUEUE describe: `length`/8 bytes of `BUF`, on which `tx_data` is wired (R41). -/
def portRecord (cmd : BitVec 3) (addr len : BitVec 8) (buf : Memory) : Tx :=
  { cmd := cmd, addr := addr, length := len.toNat, payload := (payloadOf buf).take (len.toNat / 8) }

/-! ## The Encoder's reads -/

/-- One snapshot of `DIGIT[d]`, the environment's writes up to it landed (R54, R55). -/
def readDigit (d : Fin 5) (s : State) : DisplayDigit × State :=
  let s := envMove s
  (atDigit s.shared.digits d, s)

/-- One read of `DBLINK[d].toggle` (R54). -/
def readDigitToggle (d : Fin 5) (s : State) : Bool × State :=
  let s := envMove s
  ((atDigit s.shared.digitBlink d).toggle, s)

/-- One snapshot of `IBLINK[ICON_WIFI]` (R54). -/
def readWifiBlink (s : State) : BlinkState × State :=
  let s := envMove s
  (iconBlinkOf s.shared s.rom.val.iconWifi, s)

/-- `SEGTAB[c]`: total over the byte range, since the table has 256 entries (R142 (a), R165). -/
def segtabEntry (rom : Rom) (c : Byte) : Mask :=
  rom.val.segtab.getD c.toNat 0#32

end Sys2Proof.Machine
end

