-- ==== Sys2Proof/Machine/BusOps.lean ====
section
/-!
DEFINITION. The bus operation rows of the table (R81): each presents its operation and has the effect its contract gives
the environment's answer (R104). None changes a tag.
-/

namespace Sys2Proof.Machine

/-- NONE: the tick issues no bus operation (R81, R101). -/
def execBusopNone (s : State) : Host.Outcome State Fault Refusal :=
  .next (present .none s)

/-- BUS_INIT: `BusInitialize(BUSCFG)` (R104). -/
def execBusopBusInit (s : State) : Host.Outcome State Fault Refusal :=
  .next (busInitialize s)

/-- ATTACH: `AttachDevice(p)` (R104). -/
def execBusopAttach (profile : Profile) (s : State) : Host.Outcome State Fault Refusal :=
  .next (attachDevice profile s)

/-- DETACH: `DetachDevice(handle)` (R104). -/
def execBusopDetach (s : State) : Host.Outcome State Fault Refusal :=
  .next (detachDevice s)

/-- QUEUE: `QueueTransaction(handle, tx)` with the record on the ports (R41, R104). -/
def execBusopQueue (cmd : BitVec 3) (addr len : BitVec 8) (s : State) : Host.Outcome State Fault Refusal :=
  .next (queueTransaction (portRecord cmd addr len s.buf) s)

/-- AWAIT: `AwaitResult(handle)`, which may not have returned yet (R104). -/
def execBusopAwait (s : State) : Host.Outcome State Fault Refusal :=
  .next (awaitResult s)

end Sys2Proof.Machine
end

