-- ==== Sys2Proof/Machine/ConfigStates.lean ====
section
/-!
DEFINITION. The configuration command states (spec/42_config_states.md, R120 to R127).
-/

namespace Sys2Proof.Machine

/-- `SendCommand(C, S)` (R105): queue the record, ignore the answer, go to the rendezvous with `next` = S. -/
def sendCommand (k : CfgCommand) (S : Tag) (s : State) : State :=
  waitThen S (queueTransaction (cfgtx s.rom k) s)

/-- CFG_SYS_DIS (R121): only a cold pass sends the command. -/
def execCfgSysDis (s : State) : Host.Outcome State Fault Refusal :=
  .next <|
    if s.startupInit then sendCommand .sysDis .cfgComOption s
    else goto .cfgComOption (present .none s)

/-- CFG_COM_OPTION (R122). -/
def execCfgComOption (s : State) : Host.Outcome State Fault Refusal :=
  .next (sendCommand .comOption .cfgMasterMode s)

/-- CFG_MASTER_MODE (R123). -/
def execCfgMasterMode (s : State) : Host.Outcome State Fault Refusal :=
  .next (sendCommand .masterMode .cfgSysOn s)

/-- CFG_SYS_ON (R124). -/
def execCfgSysOn (s : State) : Host.Outcome State Fault Refusal :=
  .next (sendCommand .sysOn .cfgPwmMode s)

/-- CFG_PWM_MODE (R125). -/
def execCfgPwmMode (s : State) : Host.Outcome State Fault Refusal :=
  .next (sendCommand .pwmDuty .cfgBlinkMode s)

/-- CFG_BLINK_MODE (R126). -/
def execCfgBlinkMode (s : State) : Host.Outcome State Fault Refusal :=
  .next (sendCommand .blinkOff .cfgLedOn s)

/-- CFG_LED_ON (R127). -/
def execCfgLedOn (s : State) : Host.Outcome State Fault Refusal :=
  .next (sendCommand .ledOn .cancelCfgProtocolFormat s)

end Sys2Proof.Machine
end

