-- ==== Sys2Proof/Machine/Flags.lean ====
section
/-!
DEFINITION. The flag-like bits (R42): `startupInit`, the watchdog test (R132), the gating of a digit by its `toggle`
(R144, R149), the decimal point (R146) and the shared bit (R147). The block has no arithmetic condition codes.
-/

namespace Sys2Proof.Machine

/-- `startupInit <- 0` (R24, R130). -/
def clearStartup (s : State) : State :=
  { s with startupInit := false }

/-- `elapsed = (now − refreshPeriodStart) mod 2^64` (R132, D7). -/
def elapsed (s : State) : Micros :=
  now s - s.refreshPeriodStart

/-- The watchdog test: the unsigned, inclusive comparison elapsed ≥ `REFRESH_PERIOD_US` (R132). -/
def timedOut (s : State) : Bool :=
  refreshPeriodUs ≤ elapsed s

/-- A bit as the number 0 or 1 the source multiplies by (R144, R149 (a)). -/
def toggleFactor (toggle : Bool) : Mask :=
  if toggle then 1#32 else 0#32

/-- `m * tg`: the mask itself or 0 (R144, R149 (a)). -/
def gateMask (m : Mask) (toggle : Bool) : Mask :=
  m * toggleFactor toggle

/-- `dp * tg`: the decimal point gated by its digit's toggle (R144, R149 (b)). -/
def gateDecimalPoint (dp toggle : Bool) : Bool :=
  dp && toggle

/-- `m | (dp << SEG_DP)`: the decimal point is a segment (R146). -/
def mergeDecimalPoint (segDp : Nat) (m : Mask) (dp : Bool) : Mask :=
  m ||| (toggleFactor dp <<< segDp)

/-- The icon term of the shared bit: active and in the "on" phase (R147). -/
def iconLit (w : BlinkState) : Bool :=
  w.active && w.toggle

/-- Whether step 4 sets the shared bit: digit 0's raw decimal point or the icon term (R147, D15). -/
def sharedBitSet (dp0 : Bool) (w : BlinkState) : Bool :=
  dp0 || iconLit w

end Sys2Proof.Machine
end

