-- ==== Sys2Proof/Machine/Encoder.lean ====
section
/-!
DEFINITION. The Frame Encoder `Encode()` as the loop of rule R141: clear, look up and gate, place, shared bit. The two loops
over all of `BUF` are irreducible, so that no proof unrolls them by accident: Laws/Memory.lean says what each leaves.
-/

namespace Sys2Proof.Machine

/-- A byte with bit b set or cleared, the other seven untouched (R145). -/
def withBit (x : Byte) (b : Nat) (v : Bool) : Byte :=
  if v then x ||| (1#8 <<< b) else x &&& ~~~(1#8 <<< b)

/-- Step 1: every byte of `BUF` is written with 0x00 (R143). -/
@[irreducible] def clearBuf (buf : Memory) : Memory :=
  (List.range bufBytes).foldl (fun b s => Table.write b s 0#8) buf

/-- `BUF[s][b] <- v` (R145). -/
def placeBit (b : Nat) (buf : Memory) (s : Nat) (v : Bool) : Memory :=
  Table.write buf s (withBit (bufByte buf s) b v)

/-- Step 3: `BUF[s][d+2] <- m[s]` for s = 0..15; mask bits 16 to 31 select no byte (R145). -/
@[irreducible] def placeMask (d : Nat) (m : Mask) (buf : Memory) : Memory :=
  (List.range bufBytes).foldl (fun b s => placeBit (d + digitBitOffset) b s (m.getLsbD s)) buf

/-- The mask of a digit: looked up, gated, its gated decimal point merged (R144, R146). -/
def digitMask (rom : Rom) (D : DisplayDigit) (toggle : Bool) : Mask :=
  mergeDecimalPoint rom.val.segDp (gateMask (segtabEntry rom D.character) toggle)
    (gateDecimalPoint D.decimalPoint toggle)

/-- Steps 2 and 3 for one digit; the snapshot is handed on for step 4 (R54: it is not read twice). -/
def encodeDigit (d : Fin 5) (s : State) : DisplayDigit × State :=
  let (D, s) := readDigit d s
  let (toggle, s) := readDigitToggle d s
  (D, { s with buf := placeMask d.val (digitMask s.rom D toggle) s.buf })

/-- Step 4: the shared bit `BUF[SEG_DP][2]` is set, never cleared (R147). -/
def encodeSharedBit (D0 : DisplayDigit) (s : State) : State :=
  let (w, s) := readWifiBlink s
  { s with
    buf :=
      if sharedBitSet D0.decimalPoint w then placeBit digitBitOffset s.buf s.rom.val.segDp true else s.buf }

/-- The full clear of `BUF` before anything is placed (R38, R143). -/
def eraseFrame (s : State) : State :=
  { s with buf := clearBuf s.buf }

/-- `Encode()` (R141). -/
def encodeFrame (s : State) : State :=
  let s := eraseFrame s
  let (D0, s) := encodeDigit 0 s
  let (_, s) := encodeDigit 1 s
  let (_, s) := encodeDigit 2 s
  let (_, s) := encodeDigit 3 s
  let (_, s) := encodeDigit 4 s
  encodeSharedBit D0 s

end Sys2Proof.Machine
end

