-- ==== Sys2Proof/Machine/RefreshWait.lean ====
section
/-!
DEFINITION. REFRESH and WAIT_DRIVER_READY (spec/43_refresh_wait_states.md, R130 to R134).
-/

namespace Sys2Proof.Machine

/-- The non-timeout part of a REFRESH tick: encode, then queue what was encoded (R130, R148). -/
def sendFrame (s : State) : State :=
  let s := encodeFrame s
  queueTransaction (wrtx s.rom s.buf) s

/-- REFRESH (R130, R169): clear the flag, read the clock, test the watchdog, and only then encode and queue. -/
def execRefresh (s : State) : Host.Outcome State Fault Refusal :=
  let s := readClock (clearStartup s)
  .next <|
    if timedOut s then goto .prepareReinit (present .none s)
    else waitThen .refresh (sendFrame s)

/-- WAIT_DRIVER_READY (R131): held until AwaitResult returns, then `pc <- next`. -/
def execWaitDriverReady (s : State) : Host.Outcome State Fault Refusal :=
  .next <|
    if s.port.rspValid then goto s.next (awaitResult s) else awaitResult s

end Sys2Proof.Machine
end

