-- ==== Sys2Proof/Machine/Transactions.lean ====
section
/-!
DEFINITION. The transaction rows of the table: a configuration command record and the refresh record, each handed to the
transport by QueueTransaction (R73 to R75, R104). A record changes no tag: control transfer belongs to the state that
sends it.
-/

namespace Sys2Proof.Machine

/-- CFGTX, "system disable": queue the zero-payload record with these header fields (R74, R104). -/
def execCfgtxSysDis (cmd : BitVec 3) (addr : BitVec 8) (s : State) : Host.Outcome State Fault Refusal :=
  .next (queueTransaction (cfgRecord cmd addr) s)

/-- CFGTX, "COM-option": queue the zero-payload record with these header fields (R74, R104). -/
def execCfgtxComOption (cmd : BitVec 3) (addr : BitVec 8) (s : State) : Host.Outcome State Fault Refusal :=
  .next (queueTransaction (cfgRecord cmd addr) s)

/-- CFGTX, "master-mode": queue the zero-payload record with these header fields (R74, R104). -/
def execCfgtxMasterMode (cmd : BitVec 3) (addr : BitVec 8) (s : State) : Host.Outcome State Fault Refusal :=
  .next (queueTransaction (cfgRecord cmd addr) s)

/-- CFGTX, "system on": queue the zero-payload record with these header fields (R74, R104). -/
def execCfgtxSysOn (cmd : BitVec 3) (addr : BitVec 8) (s : State) : Host.Outcome State Fault Refusal :=
  .next (queueTransaction (cfgRecord cmd addr) s)

/-- CFGTX, "PWM-duty": queue the zero-payload record with these header fields (R74, R104). -/
def execCfgtxPwmDuty (cmd : BitVec 3) (addr : BitVec 8) (s : State) : Host.Outcome State Fault Refusal :=
  .next (queueTransaction (cfgRecord cmd addr) s)

/-- CFGTX, "blink off": queue the zero-payload record with these header fields (R74, R104). -/
def execCfgtxBlinkOff (cmd : BitVec 3) (addr : BitVec 8) (s : State) : Host.Outcome State Fault Refusal :=
  .next (queueTransaction (cfgRecord cmd addr) s)

/-- CFGTX, "LED on": queue the zero-payload record with these header fields (R74, R104). -/
def execCfgtxLedOn (cmd : BitVec 3) (addr : BitVec 8) (s : State) : Host.Outcome State Fault Refusal :=
  .next (queueTransaction (cfgRecord cmd addr) s)

/-- WRTX: queue the record of 128 payload bits, `payload[k]` = `BUF[k]` (R75, R104). -/
def execWrtx (cmd : BitVec 3) (addr : BitVec 7) (s : State) : Host.Outcome State Fault Refusal :=
  .next (queueTransaction (writeRecord cmd addr s.buf) s)

end Sys2Proof.Machine
end

