-- ==== Sys2Proof/Machine/TransportStates.lean ====
section
/-!
DEFINITION. The transport states (spec/41_transport_states.md, R110 to R116).
-/

namespace Sys2Proof.Machine

/-- INIT_PERIPHERAL (R110). -/
def execInitPeripheral (s : State) : Host.Outcome State Fault Refusal :=
  .next <|
    if answeredOk s then goto .setCfgProtocolFormat (busInitialize s)
    else raiseFailure .busInit (busInitialize s)

/-- SET_CFG_PROTOCOL_FORMAT (R111). -/
def execSetCfgProtocolFormat (s : State) : Host.Outcome State Fault Refusal :=
  .next <|
    if answeredOk s then goto .cfgSysDis (attachDevice .config s)
    else raiseFailure .attachConfig (attachDevice .config s)

/-- CANCEL_CFG_PROTOCOL_FORMAT (R112). -/
def execCancelCfgProtocolFormat (s : State) : Host.Outcome State Fault Refusal :=
  .next <|
    if answeredOk s then goto .setWriteProtocolFormat (detachDevice s)
    else raiseFailure .detachConfig (detachDevice s)

/-- SET_WRITE_PROTOCOL_FORMAT (R113): the timer is written in both outcomes (D6). -/
def execSetWriteProtocolFormat (s : State) : Host.Outcome State Fault Refusal :=
  .next <|
    if answeredOk s then goto .refresh (attachDevice .refresh (startPeriod (readClock s)))
    else raiseFailure .attachRefresh (attachDevice .refresh (startPeriod (readClock s)))

/-- PREPARE_REINIT (R114): the timer is written in both outcomes, and a failure goes through the wait. -/
def execPrepareReinit (s : State) : Host.Outcome State Fault Refusal :=
  .next <|
    if answeredOk s then goto .setCfgProtocolFormat (detachDevice (startPeriod (readClock s)))
    else waitThen .prepareReinit (raiseFailure .detachRefresh (detachDevice (startPeriod (readClock s))))

/-- CANCEL_CFG_OFF_MODE (R115). -/
def execCancelCfgOffMode (s : State) : Host.Outcome State Fault Refusal :=
  .next <|
    if answeredOk s then goto .offMode (detachDevice s)
    else raiseFailure .detachOff (detachDevice s)

/-- OFF_MODE (R116): no operation, no clock read, no write. -/
def execOffMode (s : State) : Host.Outcome State Fault Refusal :=
  .next (present .none s)

end Sys2Proof.Machine
end

