-- ==== Sys2Proof/Machine/Dispatch.lean ====
section
/-!
DEFINITION. The dispatch of an instruction to its meaning (R84, R100).
-/

namespace Sys2Proof.Machine

def exec (i : Instr) (s : State) : Host.Outcome State Fault Refusal :=
  match i with
  | .initPeripheral => Sys2Proof.Machine.execInitPeripheral s
  | .setCfgProtocolFormat => Sys2Proof.Machine.execSetCfgProtocolFormat s
  | .cfgSysDis => Sys2Proof.Machine.execCfgSysDis s
  | .cfgComOption => Sys2Proof.Machine.execCfgComOption s
  | .cfgMasterMode => Sys2Proof.Machine.execCfgMasterMode s
  | .cfgSysOn => Sys2Proof.Machine.execCfgSysOn s
  | .cfgPwmMode => Sys2Proof.Machine.execCfgPwmMode s
  | .cfgBlinkMode => Sys2Proof.Machine.execCfgBlinkMode s
  | .cfgLedOn => Sys2Proof.Machine.execCfgLedOn s
  | .cancelCfgProtocolFormat => Sys2Proof.Machine.execCancelCfgProtocolFormat s
  | .setWriteProtocolFormat => Sys2Proof.Machine.execSetWriteProtocolFormat s
  | .refresh => Sys2Proof.Machine.execRefresh s
  | .prepareReinit => Sys2Proof.Machine.execPrepareReinit s
  | .waitDriverReady => Sys2Proof.Machine.execWaitDriverReady s
  | .cancelCfgOffMode => Sys2Proof.Machine.execCancelCfgOffMode s
  | .offMode => Sys2Proof.Machine.execOffMode s
  | .cfgtxSysDis cmd addr => Sys2Proof.Machine.execCfgtxSysDis cmd addr s
  | .cfgtxComOption cmd addr => Sys2Proof.Machine.execCfgtxComOption cmd addr s
  | .cfgtxMasterMode cmd addr => Sys2Proof.Machine.execCfgtxMasterMode cmd addr s
  | .cfgtxSysOn cmd addr => Sys2Proof.Machine.execCfgtxSysOn cmd addr s
  | .cfgtxPwmDuty cmd addr => Sys2Proof.Machine.execCfgtxPwmDuty cmd addr s
  | .cfgtxBlinkOff cmd addr => Sys2Proof.Machine.execCfgtxBlinkOff cmd addr s
  | .cfgtxLedOn cmd addr => Sys2Proof.Machine.execCfgtxLedOn cmd addr s
  | .wrtx cmd addr => Sys2Proof.Machine.execWrtx cmd addr s
  | .busopNone => Sys2Proof.Machine.execBusopNone s
  | .busopBusInit => Sys2Proof.Machine.execBusopBusInit s
  | .busopAttach profile => Sys2Proof.Machine.execBusopAttach profile s
  | .busopDetach => Sys2Proof.Machine.execBusopDetach s
  | .busopQueue cmd addr len => Sys2Proof.Machine.execBusopQueue cmd addr len s
  | .busopAwait => Sys2Proof.Machine.execBusopAwait s

end Sys2Proof.Machine
end

