-- ==== Sys2Proof/Machine/Step.lean ====
section
/-!
DEFINITION. One step: one edge of R41's clock. The input ports take the environment's values; `rst` applies the init entry
point (R190); an enabled edge evaluates the tag in `current` (R100); an edge that is not enabled evaluates nothing, and its ports show so; then
the rest of the environment's writes of that edge land (R59).
-/

namespace Sys2Proof.Machine

/-- The tick (R100): fetch the word in `current`, decode it, run it. -/
def evaluate (s : State) : Host.Outcome State Fault Refusal :=
  match decode .state (fetchWord s) with
  | .error e => .refused (.undecodable e)
  | .ok i => exec i s

/-- What an edge does once its input is latched (R41). -/
def edge (s : State) : Host.Outcome State Fault Refusal :=
  if s.port.rst then .next (resetEdge s)
  else if s.port.tickEn then evaluate s
  else .next (idleEdge s)

/-- One step of the machine. -/
def step (s : State) : Host.Outcome State Fault Refusal :=
  match latchInput s with
  | .error f => .fault f
  | .ok s =>
    match edge s with
    | .next t => .next (settle t)
    | .fault f => .fault f
    | .refused r => .refused r

/-- The machine with a word of the opcode table placed so that the next step executes it, on an enabled edge. -/
def State.withFetchWord (s : State) (nbits w : Nat) : State :=
  match decodeTableWord nbits w with
  | none => s
  | some i => withEnabledEdge (aboutToRun i s)

end Sys2Proof.Machine
end

