-- ==== Sys2Proof/Laws/Encoding.lean ====
section
/-!
SUPPORT. The arithmetic of words: numbers from their bytes, headers and ports from their fields.
-/

namespace Sys2Proof

theorem numberOf_bytesOf (n w : Nat) : numberOf (bytesOf n w) = w % 256 ^ n := by
  induction n generalizing w with
  | zero => simp [bytesOf, numberOf, Nat.mod_one]
  | succ n ih =>
    have h : (BitVec.ofNat 8 w).toNat = w % 256 := BitVec.toNat_ofNat w 8
    rw [bytesOf, numberOf, ih, h, Nat.pow_succ, Nat.mul_comm (256 ^ n) 256, Nat.mod_mul]

@[simp] theorem length_bytesOf (n w : Nat) : (bytesOf n w).length = n := by
  induction n generalizing w with
  | zero => rfl
  | succ n ih => simp [bytesOf, ih]

theorem joinHeader_config (cmd addr : Nat) : joinHeader .config cmd addr = cmd * 256 + addr := rfl

theorem joinHeader_refresh (cmd addr : Nat) : joinHeader .refresh cmd addr = cmd * 128 + addr := rfl

/-- A CFGTX header's number gives its fields back. -/
theorem decodeCfgtx_join (k : CfgCommand) (cmd : BitVec 3) (addr : BitVec 8) :
    decodeCfgtx k (bytesOf 2 (joinHeader .config cmd.toNat addr.toNat)) = .ok (cfgtxInstr k cmd addr) := by
  have hc := cmd.isLt
  have ha := addr.isLt
  have hw : numberOf (bytesOf 2 (joinHeader .config cmd.toNat addr.toNat)) = cmd.toNat * 256 + addr.toNat := by
    rw [numberOf_bytesOf, joinHeader_config]; omega
  have h1 : (cmd.toNat * 256 + addr.toNat) / 256 = cmd.toNat := by omega
  have h2 : (cmd.toNat * 256 + addr.toNat) % 256 = addr.toNat := by omega
  have h3 : ¬ 2 ^ 11 ≤ cmd.toNat * 256 + addr.toNat := by omega
  simp only [decodeCfgtx, hw, length_bytesOf, headerCmd, headerAddr, Profile.headerBits, Profile.commandBits,
    Profile.addressBits]
  simp only [Nat.reduceAdd, Nat.reducePow] at h3 ⊢
  simp [h1, h2]
  omega

/-- A WRTX header's number gives its fields back. -/
theorem decodeWrtx_join (cmd : BitVec 3) (addr : BitVec 7) :
    decodeWrtx (bytesOf 2 (joinHeader .refresh cmd.toNat addr.toNat)) = .ok (.wrtx cmd addr) := by
  have hc := cmd.isLt
  have ha := addr.isLt
  have hw : numberOf (bytesOf 2 (joinHeader .refresh cmd.toNat addr.toNat)) = cmd.toNat * 128 + addr.toNat := by
    rw [numberOf_bytesOf, joinHeader_refresh]; omega
  have h1 : (cmd.toNat * 128 + addr.toNat) / 128 = cmd.toNat := by omega
  have h2 : (cmd.toNat * 128 + addr.toNat) % 128 = addr.toNat := by omega
  simp only [decodeWrtx, hw, length_bytesOf, headerCmd, headerAddr, Profile.headerBits, Profile.commandBits,
    Profile.addressBits]
  simp [h1, h2]
  omega

/-- A QUEUE word's number gives its ports back. -/
theorem decodeBusop_queue (cmd : BitVec 3) (addr len : BitVec 8) (hl : txLengthOk len = true)
    (ha : txAddrOk addr len = true) :
    decodeBusop (bytesOf 3 (joinPorts 4 0 cmd.toNat addr.toNat len.toNat)) = .ok (.busopQueue cmd addr len) := by
  have h1 := cmd.isLt
  have h2 := addr.isLt
  have h3 := len.isLt
  have hw : numberOf (bytesOf 3 (joinPorts 4 0 cmd.toNat addr.toNat len.toNat))
      = 4 + 8 * (2 * (cmd.toNat + 8 * (addr.toNat + 256 * len.toNat))) := by
    rw [numberOf_bytesOf, joinPorts]; omega
  generalize hr : 2 * (cmd.toNat + 8 * (addr.toNat + 256 * len.toNat)) = r at hw
  have hm : (4 + 8 * r) % 8 = 4 := by omega
  have hd : (4 + 8 * r) / 8 = r := by omega
  have ec : BitVec.ofNat 3 (r / 2) = cmd := by
    apply BitVec.eq_of_toNat_eq; rw [BitVec.toNat_ofNat]; omega
  have ea : BitVec.ofNat 8 (r / 16) = addr := by
    apply BitVec.eq_of_toNat_eq; rw [BitVec.toNat_ofNat]; omega
  have el : BitVec.ofNat 8 (r / 4096) = len := by
    apply BitVec.eq_of_toNat_eq; rw [BitVec.toNat_ofNat]; omega
  have e2 : r % 2 = 0 := by omega
  have e3 : ¬ 1048576 ≤ r := by omega
  simp [decodeBusop, hw, hm, hd, decodeQueue, ec, ea, el, e2, e3, hl, ha]

end Sys2Proof
end

