-- ==== Sys2Proof/Laws/PerInstr.lean ====
section
/-!
SUPPORT. The family RoundTrip: a well-formed instruction's word decodes, where it stands, to the instruction; one lemma per
constructor.
-/

namespace Sys2Proof.Laws.RoundTrip

/-- The word of a well-formed instruction decodes to it. -/
def Statement (i : Instr) : Prop :=
  i.wf = true → decode (encode i).1 (encode i).2 = .ok i

theorem initPeripheral : Statement .initPeripheral := fun _ => rfl

theorem setCfgProtocolFormat : Statement .setCfgProtocolFormat := fun _ => rfl

theorem cfgSysDis : Statement .cfgSysDis := fun _ => rfl

theorem cfgComOption : Statement .cfgComOption := fun _ => rfl

theorem cfgMasterMode : Statement .cfgMasterMode := fun _ => rfl

theorem cfgSysOn : Statement .cfgSysOn := fun _ => rfl

theorem cfgPwmMode : Statement .cfgPwmMode := fun _ => rfl

theorem cfgBlinkMode : Statement .cfgBlinkMode := fun _ => rfl

theorem cfgLedOn : Statement .cfgLedOn := fun _ => rfl

theorem cancelCfgProtocolFormat : Statement .cancelCfgProtocolFormat := fun _ => rfl

theorem setWriteProtocolFormat : Statement .setWriteProtocolFormat := fun _ => rfl

theorem refresh : Statement .refresh := fun _ => rfl

theorem prepareReinit : Statement .prepareReinit := fun _ => rfl

theorem waitDriverReady : Statement .waitDriverReady := fun _ => rfl

theorem cancelCfgOffMode : Statement .cancelCfgOffMode := fun _ => rfl

theorem offMode : Statement .offMode := fun _ => rfl

theorem cfgtxSysDis (cmd : BitVec 3) (addr : BitVec 8) : Statement (.cfgtxSysDis cmd addr) :=
  fun _ => decodeCfgtx_join .sysDis cmd addr

theorem cfgtxComOption (cmd : BitVec 3) (addr : BitVec 8) : Statement (.cfgtxComOption cmd addr) :=
  fun _ => decodeCfgtx_join .comOption cmd addr

theorem cfgtxMasterMode (cmd : BitVec 3) (addr : BitVec 8) : Statement (.cfgtxMasterMode cmd addr) :=
  fun _ => decodeCfgtx_join .masterMode cmd addr

theorem cfgtxSysOn (cmd : BitVec 3) (addr : BitVec 8) : Statement (.cfgtxSysOn cmd addr) :=
  fun _ => decodeCfgtx_join .sysOn cmd addr

theorem cfgtxPwmDuty (cmd : BitVec 3) (addr : BitVec 8) : Statement (.cfgtxPwmDuty cmd addr) :=
  fun _ => decodeCfgtx_join .pwmDuty cmd addr

theorem cfgtxBlinkOff (cmd : BitVec 3) (addr : BitVec 8) : Statement (.cfgtxBlinkOff cmd addr) :=
  fun _ => decodeCfgtx_join .blinkOff cmd addr

theorem cfgtxLedOn (cmd : BitVec 3) (addr : BitVec 8) : Statement (.cfgtxLedOn cmd addr) :=
  fun _ => decodeCfgtx_join .ledOn cmd addr

theorem wrtx (cmd : BitVec 3) (addr : BitVec 7) : Statement (.wrtx cmd addr) :=
  fun _ => decodeWrtx_join cmd addr

theorem busopNone : Statement .busopNone := fun _ => rfl

theorem busopBusInit : Statement .busopBusInit := fun _ => rfl

theorem busopAttach (profile : Profile) : Statement (.busopAttach profile) := by
  intro _
  cases profile <;> rfl

theorem busopDetach : Statement .busopDetach := fun _ => rfl

theorem busopQueue (cmd : BitVec 3) (addr len : BitVec 8) : Statement (.busopQueue cmd addr len) := by
  intro h
  simp only [Instr.wf, Bool.and_eq_true] at h
  exact decodeBusop_queue cmd addr len h.1 h.2

theorem busopAwait : Statement .busopAwait := fun _ => rfl

end Sys2Proof.Laws.RoundTrip
end

