-- ==== Sys2Proof/Safety.lean ====
section
/-!
DEFINITION. What counts as a safe run, in the terms the statements use: the invariants of R38 and R39, the properties of a
frame (R150), the closed form of the Encoder (R151), and the bookkeeping of events a tick may issue (R101, R169).
-/

namespace Sys2Proof.Machine

/-! ## The sequencer's invariant (R39) -/

/-- The values `next` ever takes (R23). -/
def rendezvousTarget : Tag → Bool
  | .cfgComOption => true
  | .cfgMasterMode => true
  | .cfgSysOn => true
  | .cfgPwmMode => true
  | .cfgBlinkMode => true
  | .cfgLedOn => true
  | .cancelCfgProtocolFormat => true
  | .refresh => true
  | .prepareReinit => true
  | .initPeripheral => false
  | .setCfgProtocolFormat => false
  | .cfgSysDis => false
  | .setWriteProtocolFormat => false
  | .waitDriverReady => false
  | .cancelCfgOffMode => false
  | .offMode => false

/-- The tag whose phase the block is in: in the rendezvous, the tag it goes on to. -/
def phase (s : State) : Tag :=
  if s.current = .waitDriverReady then s.next else s.current

/-- The profile attached in a phase (R39 (i) to (iii)). -/
def phaseProfile : Tag → Option Profile
  | .initPeripheral => none
  | .setCfgProtocolFormat => none
  | .setWriteProtocolFormat => none
  | .cfgSysDis => some .config
  | .cfgComOption => some .config
  | .cfgMasterMode => some .config
  | .cfgSysOn => some .config
  | .cfgPwmMode => some .config
  | .cfgBlinkMode => some .config
  | .cfgLedOn => some .config
  | .cancelCfgProtocolFormat => some .config
  | .refresh => some .refresh
  | .prepareReinit => some .refresh
  | .waitDriverReady => none
  | .cancelCfgOffMode => none
  | .offMode => none

/-- The profile of the held handle. -/
def attachedProfile (s : State) : Option Profile :=
  s.handle.map Handle.profile

/-- R39 (i) to (iii): one profile at a time, and which one in which phase. -/
def ProfileInv (s : State) : Prop :=
  attachedProfile s = phaseProfile (phase s)

/-- R39 (iv): at most one transaction is outstanding, and none outside the rendezvous. A hold is a hold in it (R131). -/
def RendezvousInv (s : State) : Prop :=
  s.outstanding ≤ 1 ∧ (s.current ≠ .waitDriverReady → s.outstanding = 0)
    ∧ (s.held = true → s.current = .waitDriverReady)
    ∧ (s.current = .waitDriverReady → rendezvousTarget s.next = true)

/-- R39 (vii): the off path is not entered. -/
def OffPathInv (s : State) : Prop :=
  s.current ≠ .cancelCfgOffMode ∧ s.current ≠ .offMode

/-- A refresh transaction handed over (R75). -/
def Event.isFrame : Event → Bool
  | .queueTransaction _ tx _ => tx.length == wrLenBits
  | .busInitialize _ => false
  | .attachDevice _ => false
  | .detachDevice _ => false
  | .awaitResult _ => false
  | .nowMicros _ => false
  | .log _ _ => false

/-- R39 (vi): while `startupInit` is 1 no REFRESH tick has occurred: no frame was sent, and the block is neither waiting
for one nor leaving the refresh loop. -/
def StartupInv (s : State) : Prop :=
  s.startupInit = true →
    (∀ e ∈ s.trace, Event.isFrame e = false) ∧ s.current ≠ .prepareReinit
      ∧ (s.current = .waitDriverReady → s.next ≠ .refresh ∧ s.next ≠ .prepareReinit)

/-- The sequencer's invariant (R38, R39). -/
def SequencerInv (s : State) : Prop :=
  ProfileInv s ∧ RendezvousInv s ∧ OffPathInv s ∧ StartupInv s

/-! ## Memory and frames -/

/-- Every memory of the machine is in canonical form and inside its space (R50). -/
def MemoryInv (s : State) : Prop :=
  Memory.wf bufBytes s.buf = true ∧ Memory.wf (iconBitmapBytes s.rom) s.shared.icons = true
    ∧ Table.wf s.rom.val.iconCount s.shared.iconBlink = true

/-- Bits 0, 1 and 7 of a frame byte are 0 (R77, R150 (P1)). -/
def cleanByte (b : Byte) : Bool :=
  b &&& 0x83#8 == 0#8

/-- A record is one of the two the block sends: no payload, or sixteen clean bytes (R73 to R75, R82). -/
def cleanRecord (tx : Tx) : Bool :=
  (tx.length == 0 && tx.payload.isEmpty)
    || (tx.length == wrLenBits && tx.payload.length == bufBytes && tx.payload.all cleanByte && !tx.addr.getLsbD 7)

/-- An event that hands over a record hands over such a record. -/
def Event.clean : Event → Bool
  | .queueTransaction _ tx _ => cleanRecord tx
  | .busInitialize _ => true
  | .attachDevice _ => true
  | .detachDevice _ => true
  | .awaitResult _ => true
  | .nowMicros _ => true
  | .log _ _ => true

/-- Whatever was written to `BUF` and whatever was sent is clean (R82 (b), R150 (P1)). -/
def FrameInv (s : State) : Prop :=
  (∀ a b, Table.read s.buf a = some b → cleanByte b = true) ∧ ∀ e ∈ s.trace, Event.clean e = true

/-! ## Events of a tick -/

/-- The bus operations of rule R101; the clock read and the log are none. -/
def Event.isBusOperation : Event → Bool
  | .busInitialize _ => true
  | .attachDevice _ => true
  | .detachDevice _ => true
  | .queueTransaction _ _ _ => true
  | .awaitResult _ => true
  | .nowMicros _ => false
  | .log _ _ => false

/-- A clock read. -/
def Event.isClockRead : Event → Bool
  | .nowMicros _ => true
  | .busInitialize _ => false
  | .attachDevice _ => false
  | .detachDevice _ => false
  | .queueTransaction _ _ _ => false
  | .awaitResult _ => false
  | .log _ _ => false

/-- A logged failure. -/
def Event.isLog : Event → Bool
  | .log _ _ => true
  | .busInitialize _ => false
  | .attachDevice _ => false
  | .detachDevice _ => false
  | .queueTransaction _ _ _ => false
  | .awaitResult _ => false
  | .nowMicros _ => false

/-- The events an instruction added to the trace. -/
def newEvents (s t : State) : List Event :=
  t.trace.drop s.trace.length

/-! ## What a tick changes -/

/-- `current` became S, and `previous` what `current` was if that changed it (R102). -/
def Transferred (s t : State) (S : Tag) : Prop :=
  t.current = S ∧ t.previous = if S = s.current then s.previous else s.current

/-- `current` and `previous` as they were (R102: remain). -/
def Remained (s t : State) : Prop :=
  t.current = s.current ∧ t.previous = s.previous

/-- What no instruction ever changes: the constants, the edge count and the scenario. -/
def SameMachine (s t : State) : Prop :=
  t.rom = s.rom ∧ t.tick = s.tick ∧ t.scenario = s.scenario

/-- The shared display state and the writes still to land as they were: the instruction reads none of it (R170 (ii)). -/
def SharedUntouched (s t : State) : Prop :=
  t.shared = s.shared ∧ t.port = s.port

/-- Every byte of `BUF` as it was. -/
def BufUntouched (s t : State) : Prop :=
  ∀ a, Table.read t.buf a = Table.read s.buf a

/-- The ports of an operation that carries no record, with no failure logged (R41). -/
def barePorts (op : BitVec 3) (profile : BitVec 1) (tag : Tag) : OutPorts :=
  { opCode := op, opProfile := profile, txCmd := 0#3, txAddr := 0#8, txLen := 0#8, txData := 0#128,
    logValid := false, logClass := 0#2, stateDbg := tag.code }

/-- The ports of an operation whose failure was logged (R41). -/
def failedPorts (op : BitVec 3) (profile : BitVec 1) (cls : BitVec 2) (tag : Tag) : OutPorts :=
  { barePorts op profile tag with logValid := true, logClass := cls }

/-- The ports of a QUEUE of a record without payload (R41, R74). -/
def headerPorts (cmd : BitVec 3) (addr : BitVec 8) (tag : Tag) : OutPorts :=
  { barePorts 4#3 0#1 tag with txCmd := cmd, txAddr := addr }

/-! ## The Encoder's inputs and its closed form (R151) -/

/-- The shared display state as the k-th shared read of the tick finds it (R54, R59). -/
def sharedAt (s : State) (k : Nat) : Shared :=
  applyPhases s.shared (s.port.moves.take k)

/-- What the frame is made of: the values read in the tick (R134). -/
structure FrameInput where
  digit  : PerDigit DisplayDigit
  toggle : PerDigit Bool
  wifi   : Bool
  deriving DecidableEq, Repr

/-- The snapshots of an Encoder run in the order of rule R54: the digit of position d is read at read 2d+1, its toggle at
read 2d+2, the wifi icon at read 11. -/
def frameInput (s : State) : FrameInput :=
  { digit :=
      { left1 := (sharedAt s 1).digits.left1
        left2 := (sharedAt s 3).digits.left2
        middle := (sharedAt s 5).digits.middle
        right1 := (sharedAt s 7).digits.right1
        right2 := (sharedAt s 9).digits.right2 }
    toggle :=
      { left1 := (sharedAt s 2).digitBlink.left1.toggle
        left2 := (sharedAt s 4).digitBlink.left2.toggle
        middle := (sharedAt s 6).digitBlink.middle.toggle
        right1 := (sharedAt s 8).digitBlink.right1.toggle
        right2 := (sharedAt s 10).digitBlink.right2.toggle }
    wifi :=
      (iconBlinkOf (sharedAt s 11) s.rom.val.iconWifi).active
        && (iconBlinkOf (sharedAt s 11) s.rom.val.iconWifi).toggle }

/-- `col(d, s)` of rule R151. -/
def column (rom : Rom) (x : FrameInput) (d : Fin 5) (s : Nat) : Bool :=
  if s = rom.val.segDp then
    if d = 0 then (atDigit x.digit d).decimalPoint || x.wifi
    else (atDigit x.digit d).decimalPoint && atDigit x.toggle d
  else (segtabEntry rom (atDigit x.digit d).character).getLsbD s && atDigit x.toggle d

/-- A bit at a place, as a number. -/
def bitAt (b : Bool) (place : Nat) : Nat :=
  if b then 2 ^ place else 0

/-- Byte s of the frame: the sum of rule R151. -/
def frameByte (rom : Rom) (x : FrameInput) (s : Nat) : Byte :=
  BitVec.ofNat 8
    (bitAt (column rom x 0 s) 2 + bitAt (column rom x 1 s) 3 + bitAt (column rom x 2 s) 4
      + bitAt (column rom x 3 s) 5 + bitAt (column rom x 4 s) 6)

/-- The sixteen bytes of the frame. -/
def frameImage (rom : Rom) (x : FrameInput) : List Byte :=
  (List.range bufBytes).map (frameByte rom x)

/-! ## The transition relation (R107) -/

/-- `current` after a tick, row by row of the table of R107 (T1 to T25). -/
def transition (s : State) : Tag :=
  match s.current with
  | .initPeripheral => if s.port.rspOk then .setCfgProtocolFormat else .initPeripheral
  | .setCfgProtocolFormat => if s.port.rspOk then .cfgSysDis else .setCfgProtocolFormat
  | .cfgSysDis => if s.startupInit then .waitDriverReady else .cfgComOption
  | .cfgComOption => .waitDriverReady
  | .cfgMasterMode => .waitDriverReady
  | .cfgSysOn => .waitDriverReady
  | .cfgPwmMode => .waitDriverReady
  | .cfgBlinkMode => .waitDriverReady
  | .cfgLedOn => .waitDriverReady
  | .cancelCfgProtocolFormat => if s.port.rspOk then .setWriteProtocolFormat else .cancelCfgProtocolFormat
  | .setWriteProtocolFormat => if s.port.rspOk then .refresh else .setWriteProtocolFormat
  | .refresh => if 5000000#64 ≤ s.port.nowUs - s.refreshPeriodStart then .prepareReinit else .waitDriverReady
  | .prepareReinit => if s.port.rspOk then .setCfgProtocolFormat else .waitDriverReady
  | .waitDriverReady => if s.port.rspValid then s.next else .waitDriverReady
  | .cancelCfgOffMode => if s.port.rspOk then .offMode else .cancelCfgOffMode
  | .offMode => .offMode

/-- `next` after a tick, row by row of the table of R107. -/
def linkAfter (s : State) : Tag :=
  match s.current with
  | .cfgSysDis => if s.startupInit then .cfgComOption else s.next
  | .cfgComOption => .cfgMasterMode
  | .cfgMasterMode => .cfgSysOn
  | .cfgSysOn => .cfgPwmMode
  | .cfgPwmMode => .cfgBlinkMode
  | .cfgBlinkMode => .cfgLedOn
  | .cfgLedOn => .cancelCfgProtocolFormat
  | .refresh => if 5000000#64 ≤ s.port.nowUs - s.refreshPeriodStart then s.next else .refresh
  | .prepareReinit => if s.port.rspOk then s.next else .prepareReinit
  | .initPeripheral => s.next
  | .setCfgProtocolFormat => s.next
  | .cancelCfgProtocolFormat => s.next
  | .setWriteProtocolFormat => s.next
  | .waitDriverReady => s.next
  | .cancelCfgOffMode => s.next
  | .offMode => s.next

/-- The tags an instruction's rule names as the target of `pc <-` (R107). WAIT_DRIVER_READY names none: its target is the
content of `next` (R102). -/
def namedTargets : Instr → List Tag
  | .initPeripheral => [.setCfgProtocolFormat]
  | .setCfgProtocolFormat => [.cfgSysDis]
  | .cfgSysDis => [.waitDriverReady, .cfgComOption]
  | .cfgComOption => [.waitDriverReady]
  | .cfgMasterMode => [.waitDriverReady]
  | .cfgSysOn => [.waitDriverReady]
  | .cfgPwmMode => [.waitDriverReady]
  | .cfgBlinkMode => [.waitDriverReady]
  | .cfgLedOn => [.waitDriverReady]
  | .cancelCfgProtocolFormat => [.setWriteProtocolFormat]
  | .setWriteProtocolFormat => [.refresh]
  | .refresh => [.prepareReinit, .waitDriverReady]
  | .prepareReinit => [.setCfgProtocolFormat, .waitDriverReady]
  | .waitDriverReady => []
  | .cancelCfgOffMode => [.offMode]
  | .offMode => []
  | .cfgtxSysDis _ _ => []
  | .cfgtxComOption _ _ => []
  | .cfgtxMasterMode _ _ => []
  | .cfgtxSysOn _ _ => []
  | .cfgtxPwmDuty _ _ => []
  | .cfgtxBlinkOff _ _ => []
  | .cfgtxLedOn _ _ => []
  | .wrtx _ _ => []
  | .busopNone => []
  | .busopBusInit => []
  | .busopAttach _ => []
  | .busopDetach => []
  | .busopQueue _ _ _ => []
  | .busopAwait => []

/-- What a command state does in its tick (R105 and its row of R107): queue the record of command k, whatever the answer,
and go to the rendezvous with `next` = S. Everything not named is as it was. -/
def SendsCommand (i : Instr) (k : CfgCommand) (tag S : Tag) (s : State) : Prop :=
  exec i s = .next
    { s with
      next := S
      previous := tag
      current := .waitDriverReady
      outstanding := if s.port.rspOk then s.outstanding + 1 else s.outstanding
      out := headerPorts (BitVec.ofNat 3 (commandConst s.rom k).cmd) (BitVec.ofNat 8 (commandConst s.rom k).addr) tag
      trace := s.trace ++
        [.queueTransaction s.handle
          ⟨BitVec.ofNat 3 (commandConst s.rom k).cmd, BitVec.ofNat 8 (commandConst s.rom k).addr, 0, []⟩
          s.rom.val.queueTimeout] }

/-- The ports of a QUEUE of a record (R41). -/
def recordPorts (tx : Tx) (tag : Tag) : OutPorts :=
  { barePorts 4#3 0#1 tag with
    txCmd := tx.cmd, txAddr := tx.addr, txLen := BitVec.ofNat 8 tx.length
    txData := BitVec.ofNat 128 (numberOf tx.payload) }

/-- What a transaction row does: hand the record to the transport and nothing else (R104). -/
def QueuesRecord (i : Instr) (tx : Tx) (s : State) : Prop :=
  exec i s = .next
    { s with
      outstanding := if s.port.rspOk then s.outstanding + 1 else s.outstanding
      out := recordPorts tx s.current
      trace := s.trace ++ [.queueTransaction s.handle tx s.rom.val.queueTimeout] }

/-- The record of a frame (R75): bit 7 of the address is 0, since `C_WRITE.addr` has seven bits (R41). -/
def frameRecord (rom : Rom) (x : FrameInput) : Tx :=
  { cmd := BitVec.ofNat 3 rom.val.write.cmd
    addr := (BitVec.ofNat 7 rom.val.write.addr).setWidth 8
    length := 128
    payload := frameImage rom x }

/-- An edge of the scenario that names only elements that exist, and is no reset. -/
def plainEdge (rom : Rom) (i : Input) : Bool :=
  !i.rst && (firstMissing rom i.moves).isNone

/-- Such an edge, enabled and with every answer ok. -/
def okEdge (rom : Rom) (i : Input) : Bool :=
  plainEdge rom i && i.tickEn && i.rspValid && i.rspOk

/-- The event of a configuration command sent under a handle (R74). -/
def commandEvent (rom : Rom) (h : Handle) (k : CfgCommand) : Event :=
  .queueTransaction (some h)
    ⟨BitVec.ofNat 3 (commandConst rom k).cmd, BitVec.ofNat 8 (commandConst rom k).addr, 0, []⟩ rom.val.queueTimeout

end Sys2Proof.Machine
end

