-- ==== Sys2Proof/Certificates/Slice0/Obligations.lean ====
section
/-!
DEFINITION. The statements about the machine, from the numbered rules of spec/.
-/

open Sys2Proof Sys2Proof.Machine

/-! ## Reset and configuration -/

/-- The values rules R43 and R190 give for reset. That the bus is uninitialised, nothing is outstanding and the trace is
empty is the model's (notes/assumptions/6.md, 7.md, 11.md). -/
def Obligations.ResetRegisters : Prop :=
  State.reset.current = .initPeripheral ∧ State.reset.startupInit = true ∧ State.reset.handle = none
    ∧ State.reset.outstanding = 0 ∧ State.reset.busInitialised = false ∧ State.reset.trace = []
    ∧ ∀ d, (atDigit State.reset.shared.digits d).character = atDigit State.reset.rom.val.defaultChar d

/-- The three invariants hold right after reset: the sequencer's (R38, R39, which the spec marks as derived), the
memories' canonical form, and clean bytes and records (R82 (b), R150 P1). The model's are: in the first the clauses on
`held` and `next` (notes/assumptions/5.md), the whole of the second (3.md), and in the third the trace (7.md) and that
nothing is said of a byte of `BUF` that nothing has written (3.md). -/
def Obligations.ResetMeetsInvariants : Prop :=
  SequencerInv State.reset ∧ MemoryInv State.reset ∧ FrameInv State.reset

/-- A configuration is accepted exactly when it satisfies R142 (a), (c), (d), U12 and the ranges of R8, and is refused
otherwise. The refusal's name and the positive yield as a condition are the model's (notes/assumptions/2.md). -/
def Obligations.PowerUpRefusesIllFormed : Prop :=
  ∀ p : Params,
    (¬ (p.segDp < 16 ∧ p.segtab.length = 256
        ∧ (∀ m ∈ p.segtab, m.toNat < 2 ^ 16 ∧ m.getLsbD p.segDp = false)
        ∧ p.iconWifi < p.iconCount ∧ p.write.cmd < 8 ∧ p.write.addr < 128 ∧ 0 < p.tickYield
        ∧ ∀ c ∈ [p.sysDis, p.comOption, p.masterMode, p.sysOn, p.pwmDuty, p.blinkOff, p.ledOn],
            c.cmd < 8 ∧ c.addr < 256)
      → powerUp p = .refused .illFormedConfiguration)
    ∧ ((p.segDp < 16 ∧ p.segtab.length = 256
        ∧ (∀ m ∈ p.segtab, m.toNat < 2 ^ 16 ∧ m.getLsbD p.segDp = false)
        ∧ p.iconWifi < p.iconCount ∧ p.write.cmd < 8 ∧ p.write.addr < 128 ∧ 0 < p.tickYield
        ∧ ∀ c ∈ [p.sysDis, p.comOption, p.masterMode, p.sysOn, p.pwmDuty, p.blinkOff, p.ledOn],
            c.cmd < 8 ∧ c.addr < 256)
      → ∃ t, powerUp p = .next t ∧ t.rom.val = p ∧ t.current = .initPeripheral ∧ t.startupInit = true)

/-! ## Encoding -/

/-- Every well-formed instruction's word decodes to it. Where a word's fields lie in its bytes, and the place as an
argument, are the model's (notes/assumptions/8.md). -/
def Obligations.DecodeOfEncode : Prop :=
  ∀ i : Instr, i.wf = true → decode (encode i).1 (encode i).2 = .ok i

/-- A word that decodes is the word of what it decodes to, which is well formed: where a word stands, it has one
meaning. The layout is the model's (notes/assumptions/8.md). -/
def Obligations.EncodeOfDecode : Prop :=
  ∀ f bytes i, decode f bytes = .ok i → encode i = (f, bytes) ∧ i.wf = true

/-- A few words written out from R70, R74, R75, R81 and the vectors V-C3 and S1. The bytes that hold a code or a header
are the model's (notes/assumptions/8.md). -/
def Obligations.SpecWordsDecode : Prop :=
  decode .state [0x0B#8] = .ok .refresh
    ∧ decode .state [0x0D#8] = .ok .waitDriverReady
    ∧ decode (.cfgtx .comOption) [0x20#8, 0x04#8] = .ok (.cfgtxComOption 4#3 0x20#8)
    ∧ decode .wrtx [0x80#8, 0x02#8] = .ok (.wrtx 5#3 0#7)
    ∧ decode .busop [0x0A#8, 0x00#8, 0x00#8] = .ok (.busopAttach .refresh)
    ∧ decode .busop [0x05#8, 0x00#8, 0x00#8] = .ok .busopAwait

/-- `op_code` 6 and 7 are rejected by name whatever the other ports hold (R81, U13). The three bytes of the ports are
the model's (notes/assumptions/8.md). -/
def Obligations.ReservedOpCodesRejected : Prop :=
  ∀ b0 b1 b2 : Byte, 6 ≤ b0.toNat % 8 → decode .busop [b0, b1, b2] = .error .reservedOpCode

/-- Every state fetches: the word of `current` decodes to the instruction of its tag (R64, R82 (a), R84). The byte that
holds the code is the model's (notes/assumptions/8.md). -/
def Obligations.EveryTagFetches : Prop :=
  ∀ s : State, decode .state (fetchWord s) = .ok s.current.instr

/-! ## The step -/

/-- An enabled edge that is no reset runs the decoded instruction on the state with the edge's input latched; then the
rest of the environment's writes land. What the edge adds is the model's (notes/assumptions/1.md, 6.md, 16.md). -/
def Obligations.StepRunsDecodedInstruction : Prop :=
  ∀ s s₁ i, latchInput s = .ok s₁ → s₁.port.rst = false → s₁.port.tickEn = true
    → decode .state (fetchWord s₁) = .ok i
    → step s = (match exec i s₁ with
        | .next t => .next (settle t)
        | .fault f => .fault f
        | .refused r => .refused r)

/-- The input of an edge is the scenario's first, where it names only elements that exist: the constants, the registers
and the shared state are as before it (R170, R172). The scenario is the model's (notes/assumptions/1.md, 12.md). -/
def Obligations.ScenarioSuppliesInput : Prop :=
  ∀ s i rest, s.scenario = i :: rest → (firstMissing s.rom i.moves).isNone = true
    → latchInput s = .ok { s with port := i, scenario := rest, tick := s.tick + 1 }

/-- `rst` = 1 applies the init entry point: the registers have their reset values, the constants stay (R41, R190). That
`rst` goes before `tick_en`, that the trace starts anew and that the peripheral is uninitialised again are the model's
(notes/assumptions/6.md, 7.md, 11.md), and so is that the edge's environment writes land after the defaults are seeded
(16.md). -/
def Obligations.ResetEdgeAppliesInit : Prop :=
  ∀ s s₁, latchInput s = .ok s₁ → s₁.port.rst = true
    → ∃ t, step s = .next t ∧ t.current = .initPeripheral ∧ t.startupInit = true ∧ t.handle = none
        ∧ t.outstanding = 0 ∧ t.busInitialised = false ∧ t.held = false ∧ t.trace = [] ∧ t.rom = s.rom
        ∧ t.shared = applyPhases (Shared.coldInit s.rom) s₁.port.moves

/-- An edge with `tick_en` = 0 and `rst` = 0 evaluates nothing: what the worker owns is as it was, and the shared
display state takes the environment's writes (R41, R170); the ports show `current` and no logged failure (R41). That no
operation is presented on such an edge but a pending AwaitResult, and the ports then undriven, are the model's
(notes/assumptions/14.md; 6.md, 16.md). -/
def Obligations.DisabledEdgeEvaluatesNothing : Prop :=
  ∀ s s₁, latchInput s = .ok s₁ → s₁.port.rst = false → s₁.port.tickEn = false
    → step s = .next
        { s with
          out := barePorts (if s.held then 5#3 else 0#3) 0#1 s.current
          port := { s₁.port with moves := [] }
          scenario := s₁.scenario
          tick := s.tick + 1
          shared := applyPhases s.shared s₁.port.moves }

/-- A step never refuses, and it faults exactly where the scenario's environment writes an element that does not exist
(R11: the block has no fault outcome of its own; R50). The fault is the model's (notes/assumptions/12.md); so is that an
edge on which AwaitResult has not returned, which T22 and R11 call held and no step, is a next state (5.md). -/
def Obligations.StepStopsOnlyOnMissingElement : Prop :=
  ∀ s : State,
    ((∀ i rest, s.scenario = i :: rest → ∀ w ∈ i.moves.flatten, missingElement s.rom w = none)
      → ∃ t, step s = .next t)
    ∧ (∀ i rest w, s.scenario = i :: rest → w ∈ i.moves.flatten → missingElement s.rom w ≠ none
      → ∃ space k, step s = .fault (.noSuchElement space k))

/-- Every instruction answers a next state in every state: the block has no fault outcome of its own (R11). The model's
are: a hold, which T22 and R11 call no step, as a next state (notes/assumptions/5.md); a transaction or operation row as
an instruction (10.md); and QUEUE with a reserved length or an address too wide, which no word decodes to (19.md). -/
def Obligations.EveryInstructionAnswers : Prop :=
  ∀ i s, ∃ t, exec i s = .next t

/-- A tick only adds events, and among them at most one bus operation and one clock read; a skipped CFG_SYS_DIS, a
REFRESH that times out and OFF_MODE issue no bus operation (R101). The one clock read is the spec's decision D27. -/
def Obligations.OneBusOperationPerTick : Prop :=
  ∀ i s t, exec i s = .next t
    → ∃ es, t.trace = s.trace ++ es ∧ (es.filter Event.isBusOperation).length ≤ 1
        ∧ (es.filter Event.isClockRead).length ≤ 1
        ∧ (i = .cfgSysDis ∧ s.startupInit = false
            ∨ i = .refresh ∧ 5000000 ≤ (s.port.nowUs - s.refreshPeriodStart).toNat ∨ i = .offMode
          → es.filter Event.isBusOperation = [])

/-- The transition relation: `current` and `next` after a tick, for each of the sixteen states and each answer (R107). A
hold is a next state in the model (notes/assumptions/5.md). -/
def Obligations.TransitionRelation : Prop :=
  ∀ s t, exec s.current.instr s = .next t → t.current = transition s ∧ t.next = linkAfter s

/-! ## The transport states (R110 to R116) -/

/-- INIT_PERIPHERAL (T1, T2, R110). The ports R41 leaves undriven: notes/assumptions/14.md. -/
def Obligations.InitPeripheralTick : Prop :=
  ∀ s, s.current = .initPeripheral →
    (s.port.rspOk = true → exec .initPeripheral s = .next
      { s with
        current := .setCfgProtocolFormat, previous := .initPeripheral, busInitialised := true
        out := barePorts 1#3 0#1 .initPeripheral
        trace := s.trace ++ [.busInitialize s.rom.val.busCfg] })
    ∧ (s.port.rspOk = false → exec .initPeripheral s = .next
      { s with
        out := failedPorts 1#3 0#1 0#2 .initPeripheral
        trace := s.trace ++ [.busInitialize s.rom.val.busCfg, .log .busInit .initPeripheral] })

/-- SET_CFG_PROTOCOL_FORMAT (T3, T4, R111). The ports R41 leaves undriven: notes/assumptions/14.md. -/
def Obligations.SetCfgProtocolFormatTick : Prop :=
  ∀ s, s.current = .setCfgProtocolFormat →
    (s.port.rspOk = true → exec .setCfgProtocolFormat s = .next
      { s with
        current := .cfgSysDis, previous := .setCfgProtocolFormat, handle := some ⟨.config, s.port.token⟩
        out := barePorts 2#3 0#1 .setCfgProtocolFormat
        trace := s.trace ++ [.attachDevice .config] })
    ∧ (s.port.rspOk = false → exec .setCfgProtocolFormat s = .next
      { s with
        out := failedPorts 2#3 0#1 1#2 .setCfgProtocolFormat
        trace := s.trace ++ [.attachDevice .config, .log .attach .setCfgProtocolFormat] })

/-- CANCEL_CFG_PROTOCOL_FORMAT (T13, T14, R112). The ports R41 leaves undriven: notes/assumptions/14.md. -/
def Obligations.CancelCfgProtocolFormatTick : Prop :=
  ∀ s, s.current = .cancelCfgProtocolFormat →
    (s.port.rspOk = true → exec .cancelCfgProtocolFormat s = .next
      { s with
        current := .setWriteProtocolFormat, previous := .cancelCfgProtocolFormat, handle := none
        out := barePorts 3#3 0#1 .cancelCfgProtocolFormat
        trace := s.trace ++ [.detachDevice s.handle] })
    ∧ (s.port.rspOk = false → exec .cancelCfgProtocolFormat s = .next
      { s with
        out := failedPorts 3#3 0#1 2#2 .cancelCfgProtocolFormat
        trace := s.trace ++ [.detachDevice s.handle, .log .detach .cancelCfgProtocolFormat] })

/-- SET_WRITE_PROTOCOL_FORMAT (T15, T16, R113): the timer is written in both outcomes. The ports R41 leaves undriven:
notes/assumptions/14.md. -/
def Obligations.SetWriteProtocolFormatTick : Prop :=
  ∀ s, s.current = .setWriteProtocolFormat →
    (s.port.rspOk = true → exec .setWriteProtocolFormat s = .next
      { s with
        current := .refresh, previous := .setWriteProtocolFormat, refreshPeriodStart := s.port.nowUs
        handle := some ⟨.refresh, s.port.token⟩
        out := barePorts 2#3 1#1 .setWriteProtocolFormat
        trace := s.trace ++ [.nowMicros s.port.nowUs, .attachDevice .refresh] })
    ∧ (s.port.rspOk = false → exec .setWriteProtocolFormat s = .next
      { s with
        refreshPeriodStart := s.port.nowUs
        out := failedPorts 2#3 1#1 1#2 .setWriteProtocolFormat
        trace := s.trace
          ++ [.nowMicros s.port.nowUs, .attachDevice .refresh, .log .attach .setWriteProtocolFormat] })

/-- PREPARE_REINIT (T19, T20, R114): a failure goes through the rendezvous and keeps the handle. The ports R41 leaves
undriven: notes/assumptions/14.md. -/
def Obligations.PrepareReinitTick : Prop :=
  ∀ s, s.current = .prepareReinit →
    (s.port.rspOk = true → exec .prepareReinit s = .next
      { s with
        current := .setCfgProtocolFormat, previous := .prepareReinit, refreshPeriodStart := s.port.nowUs
        handle := none
        out := barePorts 3#3 0#1 .prepareReinit
        trace := s.trace ++ [.nowMicros s.port.nowUs, .detachDevice s.handle] })
    ∧ (s.port.rspOk = false → exec .prepareReinit s = .next
      { s with
        current := .waitDriverReady, previous := .prepareReinit, next := .prepareReinit
        refreshPeriodStart := s.port.nowUs
        out := failedPorts 3#3 0#1 2#2 .prepareReinit
        trace := s.trace
          ++ [.nowMicros s.port.nowUs, .detachDevice s.handle, .log .detach .prepareReinit] })

/-- CANCEL_CFG_OFF_MODE (T23, T24, R115), with or without a handle. The ports R41 leaves undriven:
notes/assumptions/14.md. -/
def Obligations.CancelCfgOffModeTick : Prop :=
  ∀ s, s.current = .cancelCfgOffMode →
    (s.port.rspOk = true → exec .cancelCfgOffMode s = .next
      { s with
        current := .offMode, previous := .cancelCfgOffMode, handle := none
        out := barePorts 3#3 0#1 .cancelCfgOffMode
        trace := s.trace ++ [.detachDevice s.handle] })
    ∧ (s.port.rspOk = false → exec .cancelCfgOffMode s = .next
      { s with
        out := failedPorts 3#3 0#1 2#2 .cancelCfgOffMode
        trace := s.trace ++ [.detachDevice s.handle, .log .detach .cancelCfgOffMode] })

/-- OFF_MODE (T25, R116): nothing changes but what the ports show. The ports R41 leaves undriven:
notes/assumptions/14.md. -/
def Obligations.OffModeTick : Prop :=
  ∀ s, s.current = .offMode → exec .offMode s = .next { s with out := barePorts 0#3 0#1 .offMode }

/-- OFF_MODE is absorbing: over any number of edges that are no reset the block stays there and emits nothing (R116).
The scenario of edges is the model's (notes/assumptions/1.md, 6.md). -/
def Obligations.OffModeAbsorbs : Prop :=
  ∀ (edges : List Input) (s : State), s.current = .offMode → s.scenario = edges
    → (∀ i ∈ edges, plainEdge s.rom i = true)
    → ∃ t, Host.Core.run Sys2Proof.core edges.length s = .next t ∧ t.current = .offMode ∧ t.previous = s.previous
        ∧ t.trace = s.trace ∧ t.handle = s.handle ∧ t.buf = s.buf

/-! ## The configuration states (R120 to R127) -/

/-- CFG_SYS_DIS (T5, T6, R121): a cold pass sends the command, a warm pass skips it. The ports R41 leaves undriven:
notes/assumptions/14.md. -/
def Obligations.CfgSysDisTick : Prop :=
  ∀ s, s.current = .cfgSysDis →
    (s.startupInit = true → SendsCommand .cfgSysDis .sysDis .cfgSysDis .cfgComOption s)
    ∧ (s.startupInit = false → exec .cfgSysDis s = .next
      { s with current := .cfgComOption, previous := .cfgSysDis, out := barePorts 0#3 0#1 .cfgSysDis })

/-- The other six command states (T7 to T12, R122 to R127), whatever the queue answers. The ports R41 leaves undriven:
notes/assumptions/14.md. -/
def Obligations.CommandStateTicks : Prop :=
  ∀ s,
    (s.current = .cfgComOption → SendsCommand .cfgComOption .comOption .cfgComOption .cfgMasterMode s)
    ∧ (s.current = .cfgMasterMode → SendsCommand .cfgMasterMode .masterMode .cfgMasterMode .cfgSysOn s)
    ∧ (s.current = .cfgSysOn → SendsCommand .cfgSysOn .sysOn .cfgSysOn .cfgPwmMode s)
    ∧ (s.current = .cfgPwmMode → SendsCommand .cfgPwmMode .pwmDuty .cfgPwmMode .cfgBlinkMode s)
    ∧ (s.current = .cfgBlinkMode → SendsCommand .cfgBlinkMode .blinkOff .cfgBlinkMode .cfgLedOn s)
    ∧ (s.current = .cfgLedOn → SendsCommand .cfgLedOn .ledOn .cfgLedOn .cancelCfgProtocolFormat s)

/-- The cold boot with every answer ok: after 18 ticks the block is in REFRESH and the bus operations it issued are the
chip's boot sequence in its fixed order (R108, R194). The scenario of edges and the trace are the model's
(notes/assumptions/1.md, 7.md). The spec marks R108 as derived. -/
def Obligations.ColdBootOrder : Prop :=
  ∀ (edges : List Input) (s : State), s.current = .initPeripheral → s.startupInit = true → s.held = false
    → s.trace = [] → s.scenario = edges → edges.length = 18 → (∀ i ∈ edges, okEdge s.rom i = true)
    → ∃ t h, Host.Core.run Sys2Proof.core 18 s = .next t ∧ t.current = .refresh ∧ attachedProfile t = some .refresh
        ∧ h.profile = .config
        ∧ t.trace.filter Event.isBusOperation =
          [.busInitialize s.rom.val.busCfg, .attachDevice .config,
            commandEvent s.rom h .sysDis, .awaitResult (some h), commandEvent s.rom h .comOption, .awaitResult (some h),
            commandEvent s.rom h .masterMode, .awaitResult (some h), commandEvent s.rom h .sysOn, .awaitResult (some h),
            commandEvent s.rom h .pwmDuty, .awaitResult (some h), commandEvent s.rom h .blinkOff, .awaitResult (some h),
            commandEvent s.rom h .ledOn, .awaitResult (some h), .detachDevice (some h), .attachDevice .refresh]

/-! ## REFRESH and the rendezvous (R130 to R134) -/

/-- The watchdog test of a REFRESH tick (R132): the unsigned, inclusive comparison of the modular difference with 5 000
000 decides between PREPARE_REINIT and another frame. With a clock at or past the start the difference is the true
elapsed time; with a clock behind the start the test is true unless the clock is behind by more than 2^64 − 5 000 000.
The unsigned reading is the spec's decision D7. -/
def Obligations.WatchdogDecides : Prop :=
  ∀ s, s.current = .refresh →
    (5000000 ≤ (s.port.nowUs - s.refreshPeriodStart).toNat
      → ∃ t, exec .refresh s = .next t ∧ t.current = .prepareReinit)
    ∧ ((s.port.nowUs - s.refreshPeriodStart).toNat ≤ 4999999
      → ∃ t, exec .refresh s = .next t ∧ t.current = .waitDriverReady ∧ t.next = .refresh)
    ∧ (s.refreshPeriodStart.toNat ≤ s.port.nowUs.toNat
      → (s.port.nowUs - s.refreshPeriodStart).toNat = s.port.nowUs.toNat - s.refreshPeriodStart.toNat)
    ∧ (s.port.nowUs.toNat < s.refreshPeriodStart.toNat
      → (s.port.nowUs - s.refreshPeriodStart).toNat = 2 ^ 64 - (s.refreshPeriodStart.toNat - s.port.nowUs.toNat)
        ∧ (5000000 ≤ (s.port.nowUs - s.refreshPeriodStart).toNat
          ↔ ¬ 2 ^ 64 - 5000000 < s.refreshPeriodStart.toNat - s.port.nowUs.toNat))

/-- REFRESH past the window (T17, R130): the flag is cleared, no operation, `BUF` untouched. The ports R41 leaves
undriven: notes/assumptions/14.md. -/
def Obligations.RefreshTimeoutTick : Prop :=
  ∀ s, s.current = .refresh → 5000000 ≤ (s.port.nowUs - s.refreshPeriodStart).toNat
    → exec .refresh s = .next
      { s with
        startupInit := false, current := .prepareReinit, previous := .refresh
        out := barePorts 0#3 0#1 .refresh
        trace := s.trace ++ [.nowMicros s.port.nowUs] }

/-- REFRESH inside the window (T18, R130): the flag is cleared, all of `BUF` is rewritten with the frame of the values
read in this tick, and that frame is queued, whatever the queue answers; the ports show its record, with bit 7 of
`tx_addr` 0 and no logged failure (R41). That the environment's writes land at the reads is the model's
(notes/assumptions/16.md; 7.md), and so is `log_class` where nothing is logged (14.md). -/
def Obligations.RefreshFrameTick : Prop :=
  ∀ s, s.current = .refresh → (s.port.nowUs - s.refreshPeriodStart).toNat < 5000000
    → ∃ t, exec .refresh s = .next t
        ∧ t = { s with
            startupInit := false, current := .waitDriverReady, previous := .refresh, next := .refresh
            outstanding := if s.port.rspOk then s.outstanding + 1 else s.outstanding
            buf := t.buf
            out := recordPorts (frameRecord s.rom (frameInput s)) .refresh
            shared := sharedAt s 11
            port := { s.port with moves := s.port.moves.drop 11 }
            trace := s.trace ++
              [.nowMicros s.port.nowUs,
                .queueTransaction s.handle (frameRecord s.rom (frameInput s)) s.rom.val.queueTimeout] }
        ∧ ∀ a, Table.read t.buf a = if a < 16 then some (frameByte s.rom (frameInput s) a) else Table.read s.buf a

/-- WAIT_DRIVER_READY when AwaitResult returns, with a completion or an error alike (T21, R131). The event is the
call's, which a hold has already issued. The flag `held` is the model's (notes/assumptions/5.md, 14.md, 20.md). -/
def Obligations.WaitReturns : Prop :=
  ∀ s, s.current = .waitDriverReady → s.port.rspValid = true
    → exec .waitDriverReady s = .next
      { s with
        current := s.next
        previous := if s.next = .waitDriverReady then s.previous else .waitDriverReady
        outstanding := s.outstanding - 1
        held := false
        out := barePorts 5#3 0#1 .waitDriverReady
        trace := if s.held then s.trace else s.trace ++ [.awaitResult s.handle] }

/-- WAIT_DRIVER_READY while AwaitResult has not returned (T22, R131): the block is held and nothing it owns changes. The
hold as a next state, its one event and the flag `held` are the model's (notes/assumptions/5.md, 14.md, 20.md). -/
def Obligations.WaitHolds : Prop :=
  ∀ s, s.current = .waitDriverReady → s.port.rspValid = false
    → exec .waitDriverReady s = .next
      { s with
        held := true
        out := barePorts 5#3 0#1 .waitDriverReady
        trace := if s.held then s.trace else s.trace ++ [.awaitResult s.handle] }

/-- The wait is unbounded (R131, R199): over any number of edges on which AwaitResult does not return the block stays in
the rendezvous, reads no clock, leaves the timer, `BUF`, the handle and `next`, and issues at most the one call. The
hold as next states is the model's (notes/assumptions/5.md, 1.md). -/
def Obligations.UnboundedWaitHolds : Prop :=
  ∀ (edges : List Input) (s : State), s.current = .waitDriverReady → s.scenario = edges
    → (∀ i ∈ edges, plainEdge s.rom i = true ∧ i.rspValid = false)
    → ∃ t, Host.Core.run Sys2Proof.core edges.length s = .next t ∧ t.current = .waitDriverReady ∧ t.next = s.next
        ∧ t.previous = s.previous ∧ t.handle = s.handle ∧ t.buf = s.buf ∧ t.outstanding = s.outstanding
        ∧ t.startupInit = s.startupInit ∧ t.refreshPeriodStart = s.refreshPeriodStart
        ∧ (t.trace = s.trace ∨ t.trace = s.trace ++ [.awaitResult s.handle])

/-- What the queue and the wait answer is not examined (R105, R130, R131, D8, D9): with the other answer the tick leaves
the same state but for `outstanding`, which counts the ok. The unexamined answers are the spec's decisions D8 and D9
(notes/assumptions/17.md). -/
def Obligations.AnswersNotExamined : Prop :=
  ∀ i s t t' b,
    i ∈ [Instr.cfgSysDis, .cfgComOption, .cfgMasterMode, .cfgSysOn, .cfgPwmMode, .cfgBlinkMode, .cfgLedOn, .refresh,
        .waitDriverReady]
    → exec i s = .next t → exec i { s with port := { s.port with rspOk := b } } = .next t'
    → t' = { t with outstanding := t'.outstanding, port := { t.port with rspOk := b } }
        ∧ (i = .waitDriverReady → t'.outstanding = t.outstanding)

/-! ## The Encoder (R140 to R151) -/

/-- The loop of R141 leaves in `BUF` the closed form of R151 over the values it read, and nothing else is written. The
spec marks R151 as derived from R141, R142 and R150. -/
def Obligations.EncoderMeetsClosedForm : Prop :=
  ∀ s a, Table.read (encodeFrame s).buf a
    = if a < 16 then some (frameByte s.rom (frameInput s) a) else Table.read s.buf a

/-- The bits of a frame (R77, R150 P1 to P3, P5): bits 0, 1 and 7 of every byte are 0; a digit's bit of a segment other
than `SEG_DP` is the table's bit gated by the toggle; digits 1 to 4 have their gated decimal point in byte `SEG_DP`. The
spec marks R150 as derived from R141 to R147. -/
def Obligations.FrameBits : Prop :=
  ∀ s a, a < 16 →
    ∃ b, Table.read (encodeFrame s).buf a = some b
      ∧ b.getLsbD 0 = false ∧ b.getLsbD 1 = false ∧ b.getLsbD 7 = false
      ∧ (a ≠ s.rom.val.segDp → ∀ d : Fin 5, b.getLsbD (d.val + 2)
          = ((segtabEntry s.rom (atDigit (frameInput s).digit d).character).getLsbD a
              && atDigit (frameInput s).toggle d))
      ∧ (a = s.rom.val.segDp → ∀ d : Fin 5, d ≠ 0 → b.getLsbD (d.val + 2)
          = ((atDigit (frameInput s).digit d).decimalPoint && atDigit (frameInput s).toggle d))

/-- The shared bit (R147): digit 0's raw decimal point or the icon, active and in its "on" phase; independent of digit
0's toggle. Read 1 and read 11 are the ordinals of the reads in the tick (notes/assumptions/16.md). The raw flag and the
unread bitmap are the spec's decisions D15 and D16. -/
def Obligations.SharedBitIsOr : Prop :=
  ∀ s, ∃ b, Table.read (encodeFrame s).buf s.rom.val.segDp = some b
    ∧ b.getLsbD 2
      = ((sharedAt s 1).digits.left1.decimalPoint
          || ((iconBlinkOf (sharedAt s 11) s.rom.val.iconWifi).active
            && (iconBlinkOf (sharedAt s 11) s.rom.val.iconWifi).toggle))

/-- A frame is a function of the values read in its tick and of `SEGTAB` and `SEG_DP`, and of nothing else (R134):
whatever two machines otherwise hold, equal inputs leave equal bytes in `BUF`. The spec marks R134 as derived from R141.
-/
def Obligations.FrameIsFunctionOfInputs : Prop :=
  ∀ s t s' t', (s.port.nowUs - s.refreshPeriodStart).toNat < 5000000
    → (t.port.nowUs - t.refreshPeriodStart).toNat < 5000000
    → s.rom.val.segtab = t.rom.val.segtab → s.rom.val.segDp = t.rom.val.segDp → frameInput s = frameInput t
    → exec .refresh s = .next s' → exec .refresh t = .next t'
    → ∀ a, a < 16 → Table.read s'.buf a = Table.read t'.buf a

/-- No two digits' bits collide (R150 P7), whatever the environment writes between the reads of the tick (R59). The column of
a digit depends on nothing but the table, `SEG_DP`, and what was read for that digit, and, for digit 0 alone, the icon
term: two frames that agree in these agree in the column. And another value or another toggle of a digit before the
tick changes no bit of the frame but that digit's own. -/
def Obligations.DigitColumnsIndependent : Prop :=
  (∀ s t (d : Fin 5), s.rom.val.segtab = t.rom.val.segtab → s.rom.val.segDp = t.rom.val.segDp
    → atDigit (frameInput s).digit d = atDigit (frameInput t).digit d
    → atDigit (frameInput s).toggle d = atDigit (frameInput t).toggle d
    → (d = 0 → (frameInput s).wifi = (frameInput t).wifi)
    → ∀ a x y, a < 16 → Table.read (encodeFrame s).buf a = some x → Table.read (encodeFrame t).buf a = some y
      → x.getLsbD (d.val + 2) = y.getLsbD (d.val + 2))
  ∧ ∀ s d v b a i x y, a < 16 → i < 8 → i ≠ d.val + 2
    → Table.read (encodeFrame s).buf a = some x
    → Table.read (encodeFrame
        { s with shared :=
          { s.shared with
            digits := setDigit s.shared.digits d v
            digitBlink := setDigit s.shared.digitBlink d b } }).buf a = some y
    → x.getLsbD i = y.getLsbD i

/-! ## The transaction and operation rows (R73 to R75, R81, R104) -/

/-- The seven CFGTX rows: the zero-payload record with the row's header fields is queued; no register changes (R74,
R104). That a row is the operation without a change of tag is the model's (notes/assumptions/10.md, 14.md). -/
def Obligations.CfgtxRowsQueue : Prop :=
  ∀ (cmd : BitVec 3) (addr : BitVec 8) (s : State),
    QueuesRecord (.cfgtxSysDis cmd addr) ⟨cmd, addr, 0, []⟩ s
    ∧ QueuesRecord (.cfgtxComOption cmd addr) ⟨cmd, addr, 0, []⟩ s
    ∧ QueuesRecord (.cfgtxMasterMode cmd addr) ⟨cmd, addr, 0, []⟩ s
    ∧ QueuesRecord (.cfgtxSysOn cmd addr) ⟨cmd, addr, 0, []⟩ s
    ∧ QueuesRecord (.cfgtxPwmDuty cmd addr) ⟨cmd, addr, 0, []⟩ s
    ∧ QueuesRecord (.cfgtxBlinkOff cmd addr) ⟨cmd, addr, 0, []⟩ s
    ∧ QueuesRecord (.cfgtxLedOn cmd addr) ⟨cmd, addr, 0, []⟩ s

/-- The WRTX row: the record of 128 payload bits, payload[k] = `BUF[k]`, is queued; `BUF` and every register stay (R75,
R104). That a row is the operation without a change of tag is the model's (notes/assumptions/10.md, 14.md). -/
def Obligations.WrtxRowQueues : Prop :=
  ∀ (cmd : BitVec 3) (addr : BitVec 7) (s : State),
    QueuesRecord (.wrtx cmd addr) ⟨cmd, addr.setWidth 8, 128, (List.range 16).map (bufByte s.buf)⟩ s

/-- NONE, BUS_INIT, ATTACH and DETACH: the operation is presented and the answer has the effect of its contract; no tag
changes (R81, R101, R104). That a row is the operation without a change of tag is the model's (notes/assumptions/10.md,
14.md, 18.md). -/
def Obligations.BusopRowsPresent : Prop :=
  ∀ (p : Profile) (s : State),
    exec .busopNone s = .next { s with out := barePorts 0#3 0#1 s.current, trace := s.trace }
    ∧ exec .busopBusInit s = .next
      { s with
        busInitialised := s.port.rspOk || s.busInitialised
        out := barePorts 1#3 0#1 s.current
        trace := s.trace ++ [.busInitialize s.rom.val.busCfg] }
    ∧ exec (.busopAttach p) s = .next
      { s with
        handle := if s.port.rspOk then some ⟨p, s.port.token⟩ else s.handle
        out := barePorts 2#3 p.code s.current
        trace := s.trace ++ [.attachDevice p] }
    ∧ exec .busopDetach s = .next
      { s with
        handle := if s.port.rspOk then none else s.handle
        out := barePorts 3#3 0#1 s.current
        trace := s.trace ++ [.detachDevice s.handle] }

/-- QUEUE with either payload length a record has: the record on the ports, its data wired to `BUF` (R41, R82 (d),
R104). That a row is the operation without a change of tag is the model's (notes/assumptions/10.md, 14.md), and so is
what it does with 128 payload bits and bit 7 of the address set, which R41 rules out and no word decodes to (19.md). -/
def Obligations.BusopQueueRowQueues : Prop :=
  ∀ (cmd : BitVec 3) (addr : BitVec 8) (s : State),
    QueuesRecord (.busopQueue cmd addr 0#8) ⟨cmd, addr, 0, []⟩ s
    ∧ QueuesRecord (.busopQueue cmd addr 128#8) ⟨cmd, addr, 128, (List.range 16).map (bufByte s.buf)⟩ s

/-- AWAIT: returned, it takes one transaction off; pending, it holds (R104). That a row is the operation without a
change of tag, and the flag `held`, are the model's (notes/assumptions/5.md, 10.md, 14.md, 20.md). -/
def Obligations.BusopAwaitRow : Prop :=
  ∀ s : State, exec .busopAwait s = .next
    { s with
      outstanding := if s.port.rspValid then s.outstanding - 1 else s.outstanding
      held := !s.port.rspValid
      out := barePorts 5#3 0#1 s.current
      trace := if s.held then s.trace else s.trace ++ [.awaitResult s.handle] }

/-! ## Frames: who writes what -/

/-- `pc <- S` (R102): `previous` receives the old `current` exactly when `current` changes, and the new `current` is a
tag the instruction's rule names, or, in WAIT_DRIVER_READY alone, the content of `next`. What `previous` receives is the
spec's decision D4. -/
def Obligations.PreviousFollowsCurrent : Prop :=
  ∀ i s t, exec i s = .next t
    → t.previous = (if t.current = s.current then s.previous else s.current)
      ∧ (t.current = s.current ∨ t.current ∈ namedTargets i ∨ i = .waitDriverReady ∧ t.current = s.next)

/-- `wait_then(S)` (R103): it puts S into `next` and enters WAIT_DRIVER_READY; no instruction writes `next` but on the
way there, and only with one of the nine tags of R23, which the spec marks as derived; and WAIT_DRIVER_READY goes to
what `next` holds (R131) and does not write it, so that the rendezvous does not nest. That a wait which has not returned
is a next state with `current` as it was is the model's (notes/assumptions/5.md, 20.md). -/
def Obligations.RendezvousLink : Prop :=
  (∀ S s, (waitThen S s).next = S ∧ (waitThen S s).current = .waitDriverReady)
    ∧ (∀ i s t, exec i s = .next t → t.next ≠ s.next → t.current = .waitDriverReady ∧ rendezvousTarget t.next = true)
    ∧ ∀ s t, exec .waitDriverReady s = .next t
      → t.next = s.next ∧ t.current = if s.port.rspValid then s.next else s.current

/-- `startupInit` (R24): 1 at reset; cleared by every REFRESH and written by no other instruction; read by CFG_SYS_DIS alone
(for any other instruction its value makes no difference to anything else); and no edge but a reset brings it back to 1. -/
def Obligations.StartupFlag : Prop :=
  State.reset.startupInit = true
    ∧ (∀ i s t, exec i s = .next t → t.startupInit = if i = .refresh then false else s.startupInit)
    ∧ (∀ i s t t' b, i ≠ .cfgSysDis → exec i s = .next t → exec i { s with startupInit := b } = .next t'
      → t' = { t with startupInit := t'.startupInit })
    ∧ ∀ s s₁ t, latchInput s = .ok s₁ → s₁.port.rst = false → step s = .next t → t.startupInit = true
      → s.startupInit = true

/-- `refreshPeriodStart` is loaded with the clock by SET_WRITE_PROTOCOL_FORMAT and PREPARE_REINIT, whatever the answer,
and written by no other instruction (R25, R172). The write in both outcomes is the spec's decision D6. -/
def Obligations.PeriodStartWriters : Prop :=
  ∀ i s t, exec i s = .next t
    → t.refreshPeriodStart
      = if i = .setWriteProtocolFormat ∨ i = .prepareReinit then s.port.nowUs else s.refreshPeriodStart

/-- `handle` is written only by an attach or a detach that is answered ok (R26, R104). That an error leaves the handle
is the spec's decision D10. -/
def Obligations.HandleWriters : Prop :=
  ∀ i s t, exec i s = .next t → t.handle ≠ s.handle
    → s.port.rspOk = true
      ∧ ((i = .setCfgProtocolFormat ∨ i = .busopAttach .config) ∧ t.handle = some ⟨.config, s.port.token⟩
        ∨ (i = .setWriteProtocolFormat ∨ i = .busopAttach .refresh) ∧ t.handle = some ⟨.refresh, s.port.token⟩
        ∨ (i = .cancelCfgProtocolFormat ∨ i = .prepareReinit ∨ i = .cancelCfgOffMode ∨ i = .busopDetach)
          ∧ t.handle = none)

/-- The source's two invariants (R38). `BUF` is written by REFRESH alone, and there only inside the window; REFRESH
leaves nothing of the previous frame in it (the full clear, R143) but the closed form of R151, which the spec marks as
derived, over the values read in the tick, and hands over exactly the finished frame. And, in states the invariant of
R39 allows, which the spec marks as derived, a profile is attached only while the device is detached. At which read the
environment's writes land is the model's (notes/assumptions/16.md), and so are the clause of that invariant on `held`
(5.md) and the trace of events (7.md). -/
def Obligations.BufferAndProfileDiscipline : Prop :=
  (∀ i s t, exec i s = .next t
      → i ≠ .refresh ∨ 5000000 ≤ (s.port.nowUs - s.refreshPeriodStart).toNat → BufUntouched s t)
    ∧ (∀ s t, exec .refresh s = .next t → (s.port.nowUs - s.refreshPeriodStart).toNat < 5000000
      → (∀ a, a < 16 → Table.read t.buf a = some (frameByte s.rom (frameInput s) a))
        ∧ ∀ h tx q, Event.queueTransaction h tx q ∈ newEvents s t → tx.payload = (List.range 16).map (bufByte t.buf))
    ∧ ∀ s t p, SequencerInv s → exec s.current.instr s = .next t → Event.attachDevice p ∈ newEvents s t
      → s.handle = none

/-- The worker writes neither the shared display state nor the constants (R28, R29, R170): only the environment's own
writes land. That none lands inside an instruction other than REFRESH, but after it, is the model's: R59 and R170 allow
a write at any time, and these instructions read no shared element (notes/assumptions/16.md). -/
def Obligations.WorkerNeverWritesShared : Prop :=
  ∀ i s t, exec i s = .next t
    → SameMachine s t ∧ applyPhases t.shared t.port.moves = applyPhases s.shared s.port.moves
      ∧ (i ≠ .refresh → SharedUntouched s t)

/-- At most one failure is logged per tick, and only by a transport state whose operation was answered error, with `current`
and its class (R106, R160 to R163, R169): a failed queue is not logged. -/
def Obligations.LogOnlyOnTransportFailure : Prop :=
  ∀ i s t, exec i s = .next t
    → ((newEvents s t).filter Event.isLog).length ≤ 1
      ∧ ∀ cls tag, Event.log cls tag ∈ newEvents s t
        → s.port.rspOk = false ∧ tag = s.current
          ∧ (i = .initPeripheral ∧ cls = .busInit
            ∨ (i = .setCfgProtocolFormat ∨ i = .setWriteProtocolFormat) ∧ cls = .attach
            ∨ (i = .cancelCfgProtocolFormat ∨ i = .prepareReinit ∨ i = .cancelCfgOffMode) ∧ cls = .detach)

/-! ## Invariants and what follows from them -/

/-- Every step keeps the sequencer's invariant (R38, R39 (i) to (iv), (vi), (vii)). The spec marks R39 as derived; the
clauses on `held` and `next` are the model's (notes/assumptions/5.md). -/
def Obligations.StepKeepsSequencerInv : Prop :=
  ∀ s t, SequencerInv s → step s = .next t → SequencerInv t

/-- Every step keeps the memories' canonical form. The canonical form is the model's (notes/assumptions/3.md). -/
def Obligations.StepKeepsMemoryInv : Prop :=
  ∀ s t, MemoryInv s → step s = .next t → MemoryInv t

/-- Every step keeps every byte written to `BUF`, and every record sent, clean (R82 (b), R150 P1): bits 0, 1 and 7 are
0. A byte of `BUF` that nothing has written since reset holds a free value, of which nothing is said (R43,
notes/assumptions/3.md). The trace is the model's (7.md). -/
def Obligations.StepKeepsFrameInv : Prop :=
  ∀ s t, FrameInv s → step s = .next t → FrameInv t

/-- Under the invariant no device is attached while one is held, and no transaction is queued and no device detached
while a transaction is outstanding (R195, R196, R39 (i), (iv)). The spec marks R196 as derived. -/
def Obligations.OperationsInOrder : Prop :=
  ∀ s t, SequencerInv s → exec s.current.instr s = .next t →
    ∀ e ∈ newEvents s t,
      ((∃ p, e = .attachDevice p) → s.handle = none)
      ∧ ((∃ h tx q, e = .queueTransaction h tx q) → s.outstanding = 0 ∧ ∃ h, s.handle = some h)
      ∧ ((∃ h, e = .detachDevice h) → s.outstanding = 0 ∧ ∃ h, s.handle = some h)

/-- Under the invariant a record is queued under the profile that lays out its header (R83): a record without payload under
the config profile, a frame under the refresh profile. -/
def Obligations.RecordsUnderTheirProfile : Prop :=
  ∀ s t h tx q, SequencerInv s → exec s.current.instr s = .next t
    → Event.queueTransaction h tx q ∈ newEvents s t
    → h = s.handle ∧ (tx.length = 0 ∧ attachedProfile s = some .config
        ∨ tx.length = 128 ∧ attachedProfile s = some .refresh)

/-- `BUF` does not change while a transaction is in flight (R197): under the invariant, no edge but a reset writes it
before AwaitResult has returned. -/
def Obligations.BufStableInFlight : Prop :=
  ∀ s s₁ t, SequencerInv s → s.outstanding = 1 → latchInput s = .ok s₁ → s₁.port.rst = false → step s = .next t
    → BufUntouched s t

/-! ## Memory -/

/-- A write of the environment replaces the one element it names and leaves every other element of the shared display
state (R50, R55, R170). The moves as data are the model's (notes/assumptions/1.md, 16.md). -/
def Obligations.EnvironmentWritesOneElement : Prop :=
  ∀ (sh : Shared) (d : Fin 5) (v : DisplayDigit) (b : BlinkState) (k : Nat) (x : Byte),
    (∀ d', atDigit (applyWrite sh (.digit d v)).digits d' = if d' = d then v else atDigit sh.digits d')
    ∧ (∀ d', atDigit (applyWrite sh (.digitBlink d b)).digitBlink d' = if d' = d then b else atDigit sh.digitBlink d')
    ∧ (∀ k', iconBlinkOf (applyWrite sh (.iconBlink k b)) k' = if k' = k then b else iconBlinkOf sh k')
    ∧ (∀ k', iconsByte (applyWrite sh (.icons k x)) k' = if k' = k then x else iconsByte sh k')
    ∧ (∀ w, (w = .digit d v → applyWrite sh w = { sh with digits := (applyWrite sh w).digits })
        ∧ (w = .digitBlink d b → applyWrite sh w = { sh with digitBlink := (applyWrite sh w).digitBlink })
        ∧ (w = .iconBlink k b → applyWrite sh w = { sh with iconBlink := (applyWrite sh w).iconBlink })
        ∧ (w = .icons k x → applyWrite sh w = { sh with icons := (applyWrite sh w).icons }))

/-- Two memories in canonical form that read alike at every address are the same data. The canonical form is the model's
(notes/assumptions/3.md). -/
def Obligations.CanonicalMemoryIsExtensional : Prop :=
  ∀ (size : Nat) (m n : Memory), Memory.wf size m = true → Memory.wf size n = true
    → (∀ a, Table.read m a = Table.read n a) → m = n
end

