-- ==== Sys2Proof/Laws/Memory.lean ====
section
/-!
SUPPORT. The laws of tables and byte memory: a read after a write, the canonical form under every operation, and what the
Encoder's whole-buffer loops leave at each address.
-/

namespace Sys2Proof.Machine

/-! ## Read after write -/

theorem Table.read_write {α : Type} (t : Table α) (k j : Nat) (v : α) :
    Table.read (Table.write t k v) j = if k = j then some v else Table.read t j := by
  induction t with
  | nil => simp [Table.write, Table.read]
  | cons e rest ih =>
    obtain ⟨a, x⟩ := e
    unfold Table.write
    split
    · simp [Table.read]
    · split
      · subst_vars
        by_cases h : a = j <;> simp [Table.read, h]
      · by_cases h : a = j
        · subst h
          simp_all [Table.read]
        · simp [Table.read, h, ih]

@[simp] theorem Table.read_write_same {α : Type} (t : Table α) (k : Nat) (v : α) :
    Table.read (Table.write t k v) k = some v := by
  simp [Table.read_write]

theorem Table.read_write_other {α : Type} (t : Table α) (k j : Nat) (v : α) (h : k ≠ j) :
    Table.read (Table.write t k v) j = Table.read t j := by
  simp [Table.read_write, h]

/-! ## The canonical form -/

theorem Table.risingFrom_write {α : Type} (low k : Nat) (v : α) (t : Table α)
    (ht : Table.risingFrom low t = true) (hk : low ≤ k) :
    Table.risingFrom low (Table.write t k v) = true := by
  induction t generalizing low with
  | nil => simp [Table.write, Table.risingFrom, hk]
  | cons e rest ih =>
    obtain ⟨a, x⟩ := e
    simp only [Table.risingFrom, Bool.and_eq_true, decide_eq_true_eq] at ht
    unfold Table.write
    split
    · simp_all [Table.risingFrom]
    · split
      · simp_all [Table.risingFrom]
      · simp only [Table.risingFrom, Bool.and_eq_true, decide_eq_true_eq]
        exact ⟨ht.1, ih (a + 1) ht.2 (by omega)⟩

theorem Table.all_write {α : Type} (size k : Nat) (v : α) (t : Table α)
    (ht : (t.all fun e => decide (e.1 < size)) = true) (hk : k < size) :
    ((Table.write t k v).all fun e => decide (e.1 < size)) = true := by
  induction t with
  | nil => simp [Table.write, hk]
  | cons e rest ih =>
    obtain ⟨a, x⟩ := e
    simp only [List.all_cons, Bool.and_eq_true] at ht
    unfold Table.write
    split
    · simp only [List.all_cons, Bool.and_eq_true]
      exact ⟨decide_eq_true hk, ht⟩
    · split
      · simp only [List.all_cons, Bool.and_eq_true]
        exact ⟨decide_eq_true hk, ht.2⟩
      · simp only [List.all_cons, Bool.and_eq_true]
        exact ⟨ht.1, ih ht.2⟩

/-- A write inside the space keeps the canonical form. -/
theorem Table.wf_write {α : Type} (size k : Nat) (v : α) (t : Table α)
    (ht : Table.wf size t = true) (hk : k < size) : Table.wf size (Table.write t k v) = true := by
  simp only [Table.wf, Bool.and_eq_true] at ht ⊢
  exact ⟨Table.risingFrom_write 0 k v t ht.1 (Nat.zero_le k), Table.all_write size k v t ht.2 hk⟩

theorem Memory.wf_write (size k : Nat) (v : Byte) (m : Memory)
    (hm : Memory.wf size m = true) (hk : k < size) : Memory.wf size (Table.write m k v) = true :=
  Table.wf_write size k v m hm hk

theorem Memory.wf_nil (size : Nat) : Memory.wf size [] = true := by
  simp [Memory.wf, Table.wf, Table.risingFrom]

/-- A loop of writes inside the space keeps the canonical form. -/
theorem Memory.wf_foldl_write (size : Nat) (value : Memory → Nat → Byte) (ks : List Nat) (m : Memory)
    (hm : Memory.wf size m = true) (hk : ∀ k ∈ ks, k < size) :
    Memory.wf size (ks.foldl (fun b k => Table.write b k (value b k)) m) = true := by
  induction ks generalizing m with
  | nil => simpa using hm
  | cons k rest ih =>
    exact ih _ (Memory.wf_write size k _ m hm (hk k (by simp))) (fun j hj => hk j (by simp [hj]))

theorem clearBuf_wf (m : Memory) (hm : Memory.wf bufBytes m = true) : Memory.wf bufBytes (clearBuf m) = true := by
  unfold clearBuf
  exact Memory.wf_foldl_write bufBytes (fun _ _ => 0#8) _ m hm (by simp)

theorem placeMask_wf (d : Nat) (x : Mask) (m : Memory) (hm : Memory.wf bufBytes m = true) :
    Memory.wf bufBytes (placeMask d x m) = true := by
  unfold placeMask
  exact Memory.wf_foldl_write bufBytes (fun b s => withBit (bufByte b s) (d + digitBitOffset) (x.getLsbD s)) _ m hm (by simp)

theorem placeBit_wf (b s : Nat) (v : Bool) (m : Memory) (hm : Memory.wf bufBytes m = true) (hs : s < bufBytes) :
    Memory.wf bufBytes (placeBit b m s v) = true :=
  Memory.wf_write bufBytes s _ m hm hs

/-! ## The Encoder's loops -/

/-- A loop over the first n addresses that writes at each a function of what stands there. -/
theorem read_foldl_update (f : Nat → Byte → Byte) (n : Nat) (m : Memory) (a : Nat) :
    Table.read ((List.range n).foldl (fun b s => Table.write b s (f s (bufByte b s))) m) a
      = if a < n then some (f a (bufByte m a)) else Table.read m a := by
  induction n with
  | zero => simp
  | succ n ih =>
    rw [List.range_succ, List.foldl_append]
    simp only [List.foldl_cons, List.foldl_nil, Table.read_write]
    by_cases h : n = a
    · subst h
      have hb : bufByte ((List.range n).foldl (fun b s => Table.write b s (f s (bufByte b s))) m) n = bufByte m n := by
        simp only [bufByte] at ih ⊢
        simp [ih]
      rw [if_pos rfl, if_pos (Nat.lt_succ_self n), hb]
    · rw [if_neg h, ih]
      have : (a < n + 1) = (a < n) := by simp; omega
      simp [this]

theorem read_clearBuf (m : Memory) (a : Nat) :
    Table.read (clearBuf m) a = if a < bufBytes then some 0#8 else Table.read m a := by
  unfold clearBuf
  exact read_foldl_update (fun _ _ => 0#8) bufBytes m a

theorem read_placeMask (d : Nat) (x : Mask) (m : Memory) (a : Nat) :
    Table.read (placeMask d x m) a
      = if a < bufBytes then some (withBit (bufByte m a) (d + digitBitOffset) (x.getLsbD a)) else Table.read m a := by
  unfold placeMask
  exact read_foldl_update (fun s y => withBit y (d + digitBitOffset) (x.getLsbD s)) bufBytes m a

theorem read_placeBit (b : Nat) (m : Memory) (s : Nat) (v : Bool) (a : Nat) :
    Table.read (placeBit b m s v) a = if s = a then some (withBit (bufByte m s) b v) else Table.read m a :=
  Table.read_write m s a _

theorem bufByte_of_read (m : Memory) (a : Nat) (v : Byte) (h : Table.read m a = some v) : bufByte m a = v := by
  simp [bufByte, h]

/-! ## Bits of a byte -/

theorem withBit_getLsbD (x : Byte) (b : Nat) (v : Bool) (i : Nat) (hi : i < 8) :
    (withBit x b v).getLsbD i = if i = b then v else x.getLsbD i := by
  unfold withBit
  cases v
  · by_cases h : i = b
    · subst h; simp [hi]
    · rcases Nat.lt_or_ge i b with h' | h'
      · simp [hi, h, h']
      · have : i - b ≠ 0 := by omega
        simp [hi, h, this]
  · by_cases h : i = b
    · subst h; simp [hi]
    · rcases Nat.lt_or_ge i b with h' | h'
      · simp [h, h']
      · have : i - b ≠ 0 := by omega
        simp [h, this]

end Sys2Proof.Machine
end

