-- ==== Sys2Proof/Laws/State.lean ====
section
/-!
SUPPORT. What each operation leaves in each field of State: one lemma per field per operation, so that no proof about an
instruction unfolds an operation.
-/

namespace Sys2Proof.Machine

/-! ### emit -/

@[simp] theorem emit_rom (s : State) (e : Event) : (emit s e).rom = s.rom := rfl
@[simp] theorem emit_current (s : State) (e : Event) : (emit s e).current = s.current := rfl
@[simp] theorem emit_previous (s : State) (e : Event) : (emit s e).previous = s.previous := rfl
@[simp] theorem emit_next (s : State) (e : Event) : (emit s e).next = s.next := rfl
@[simp] theorem emit_startupInit (s : State) (e : Event) : (emit s e).startupInit = s.startupInit := rfl
@[simp] theorem emit_refreshPeriodStart (s : State) (e : Event) : (emit s e).refreshPeriodStart = s.refreshPeriodStart := rfl
@[simp] theorem emit_handle (s : State) (e : Event) : (emit s e).handle = s.handle := rfl
@[simp] theorem emit_buf (s : State) (e : Event) : (emit s e).buf = s.buf := rfl
@[simp] theorem emit_shared (s : State) (e : Event) : (emit s e).shared = s.shared := rfl
@[simp] theorem emit_busInitialised (s : State) (e : Event) : (emit s e).busInitialised = s.busInitialised := rfl
@[simp] theorem emit_outstanding (s : State) (e : Event) : (emit s e).outstanding = s.outstanding := rfl
@[simp] theorem emit_held (s : State) (e : Event) : (emit s e).held = s.held := rfl
@[simp] theorem emit_out (s : State) (e : Event) : (emit s e).out = s.out := rfl
@[simp] theorem emit_port (s : State) (e : Event) : (emit s e).port = s.port := rfl
@[simp] theorem emit_scenario (s : State) (e : Event) : (emit s e).scenario = s.scenario := rfl
@[simp] theorem emit_tick (s : State) (e : Event) : (emit s e).tick = s.tick := rfl
@[simp] theorem emit_trace (s : State) (e : Event) : (emit s e).trace = s.trace ++ [e] := rfl

/-! ### present -/

@[simp] theorem present_rom (o : BusOp) (s : State) : (present o s).rom = s.rom := rfl
@[simp] theorem present_current (o : BusOp) (s : State) : (present o s).current = s.current := rfl
@[simp] theorem present_previous (o : BusOp) (s : State) : (present o s).previous = s.previous := rfl
@[simp] theorem present_next (o : BusOp) (s : State) : (present o s).next = s.next := rfl
@[simp] theorem present_startupInit (o : BusOp) (s : State) : (present o s).startupInit = s.startupInit := rfl
@[simp] theorem present_refreshPeriodStart (o : BusOp) (s : State) : (present o s).refreshPeriodStart = s.refreshPeriodStart := rfl
@[simp] theorem present_handle (o : BusOp) (s : State) : (present o s).handle = s.handle := rfl
@[simp] theorem present_buf (o : BusOp) (s : State) : (present o s).buf = s.buf := rfl
@[simp] theorem present_shared (o : BusOp) (s : State) : (present o s).shared = s.shared := rfl
@[simp] theorem present_busInitialised (o : BusOp) (s : State) : (present o s).busInitialised = s.busInitialised := rfl
@[simp] theorem present_outstanding (o : BusOp) (s : State) : (present o s).outstanding = s.outstanding := rfl
@[simp] theorem present_held (o : BusOp) (s : State) : (present o s).held = s.held := rfl
@[simp] theorem present_out (o : BusOp) (s : State) : (present o s).out = OutPorts.driving s.current o := rfl
@[simp] theorem present_port (o : BusOp) (s : State) : (present o s).port = s.port := rfl
@[simp] theorem present_scenario (o : BusOp) (s : State) : (present o s).scenario = s.scenario := rfl
@[simp] theorem present_tick (o : BusOp) (s : State) : (present o s).tick = s.tick := rfl
@[simp] theorem present_trace (o : BusOp) (s : State) : (present o s).trace = s.trace ++ o.events s := rfl

/-! ### readClock -/

@[simp] theorem readClock_rom (s : State) : (readClock s).rom = s.rom := rfl
@[simp] theorem readClock_current (s : State) : (readClock s).current = s.current := rfl
@[simp] theorem readClock_previous (s : State) : (readClock s).previous = s.previous := rfl
@[simp] theorem readClock_next (s : State) : (readClock s).next = s.next := rfl
@[simp] theorem readClock_startupInit (s : State) : (readClock s).startupInit = s.startupInit := rfl
@[simp] theorem readClock_refreshPeriodStart (s : State) : (readClock s).refreshPeriodStart = s.refreshPeriodStart := rfl
@[simp] theorem readClock_handle (s : State) : (readClock s).handle = s.handle := rfl
@[simp] theorem readClock_buf (s : State) : (readClock s).buf = s.buf := rfl
@[simp] theorem readClock_shared (s : State) : (readClock s).shared = s.shared := rfl
@[simp] theorem readClock_busInitialised (s : State) : (readClock s).busInitialised = s.busInitialised := rfl
@[simp] theorem readClock_outstanding (s : State) : (readClock s).outstanding = s.outstanding := rfl
@[simp] theorem readClock_held (s : State) : (readClock s).held = s.held := rfl
@[simp] theorem readClock_out (s : State) : (readClock s).out = s.out := rfl
@[simp] theorem readClock_port (s : State) : (readClock s).port = s.port := rfl
@[simp] theorem readClock_scenario (s : State) : (readClock s).scenario = s.scenario := rfl
@[simp] theorem readClock_tick (s : State) : (readClock s).tick = s.tick := rfl
@[simp] theorem readClock_trace (s : State) : (readClock s).trace = s.trace ++ [.nowMicros (now s)] := rfl

/-! ### startPeriod -/

@[simp] theorem startPeriod_rom (s : State) : (startPeriod s).rom = s.rom := rfl
@[simp] theorem startPeriod_current (s : State) : (startPeriod s).current = s.current := rfl
@[simp] theorem startPeriod_previous (s : State) : (startPeriod s).previous = s.previous := rfl
@[simp] theorem startPeriod_next (s : State) : (startPeriod s).next = s.next := rfl
@[simp] theorem startPeriod_startupInit (s : State) : (startPeriod s).startupInit = s.startupInit := rfl
@[simp] theorem startPeriod_refreshPeriodStart (s : State) : (startPeriod s).refreshPeriodStart = now s := rfl
@[simp] theorem startPeriod_handle (s : State) : (startPeriod s).handle = s.handle := rfl
@[simp] theorem startPeriod_buf (s : State) : (startPeriod s).buf = s.buf := rfl
@[simp] theorem startPeriod_shared (s : State) : (startPeriod s).shared = s.shared := rfl
@[simp] theorem startPeriod_busInitialised (s : State) : (startPeriod s).busInitialised = s.busInitialised := rfl
@[simp] theorem startPeriod_outstanding (s : State) : (startPeriod s).outstanding = s.outstanding := rfl
@[simp] theorem startPeriod_held (s : State) : (startPeriod s).held = s.held := rfl
@[simp] theorem startPeriod_out (s : State) : (startPeriod s).out = s.out := rfl
@[simp] theorem startPeriod_port (s : State) : (startPeriod s).port = s.port := rfl
@[simp] theorem startPeriod_scenario (s : State) : (startPeriod s).scenario = s.scenario := rfl
@[simp] theorem startPeriod_tick (s : State) : (startPeriod s).tick = s.tick := rfl
@[simp] theorem startPeriod_trace (s : State) : (startPeriod s).trace = s.trace := rfl

/-! ### clearStartup -/

@[simp] theorem clearStartup_rom (s : State) : (clearStartup s).rom = s.rom := rfl
@[simp] theorem clearStartup_current (s : State) : (clearStartup s).current = s.current := rfl
@[simp] theorem clearStartup_previous (s : State) : (clearStartup s).previous = s.previous := rfl
@[simp] theorem clearStartup_next (s : State) : (clearStartup s).next = s.next := rfl
@[simp] theorem clearStartup_startupInit (s : State) : (clearStartup s).startupInit = false := rfl
@[simp] theorem clearStartup_refreshPeriodStart (s : State) : (clearStartup s).refreshPeriodStart = s.refreshPeriodStart := rfl
@[simp] theorem clearStartup_handle (s : State) : (clearStartup s).handle = s.handle := rfl
@[simp] theorem clearStartup_buf (s : State) : (clearStartup s).buf = s.buf := rfl
@[simp] theorem clearStartup_shared (s : State) : (clearStartup s).shared = s.shared := rfl
@[simp] theorem clearStartup_busInitialised (s : State) : (clearStartup s).busInitialised = s.busInitialised := rfl
@[simp] theorem clearStartup_outstanding (s : State) : (clearStartup s).outstanding = s.outstanding := rfl
@[simp] theorem clearStartup_held (s : State) : (clearStartup s).held = s.held := rfl
@[simp] theorem clearStartup_out (s : State) : (clearStartup s).out = s.out := rfl
@[simp] theorem clearStartup_port (s : State) : (clearStartup s).port = s.port := rfl
@[simp] theorem clearStartup_scenario (s : State) : (clearStartup s).scenario = s.scenario := rfl
@[simp] theorem clearStartup_tick (s : State) : (clearStartup s).tick = s.tick := rfl
@[simp] theorem clearStartup_trace (s : State) : (clearStartup s).trace = s.trace := rfl

/-! ### goto -/

@[simp] theorem goto_rom (S : Tag) (s : State) : (goto S s).rom = s.rom := by unfold goto; split <;> rfl
@[simp] theorem goto_current (S : Tag) (s : State) : (goto S s).current = S := by unfold goto; split <;> simp_all
@[simp] theorem goto_previous (S : Tag) (s : State) : (goto S s).previous = if S = s.current then s.previous else s.current := by unfold goto; split <;> simp_all
@[simp] theorem goto_next (S : Tag) (s : State) : (goto S s).next = s.next := by unfold goto; split <;> rfl
@[simp] theorem goto_startupInit (S : Tag) (s : State) : (goto S s).startupInit = s.startupInit := by unfold goto; split <;> rfl
@[simp] theorem goto_refreshPeriodStart (S : Tag) (s : State) : (goto S s).refreshPeriodStart = s.refreshPeriodStart := by unfold goto; split <;> rfl
@[simp] theorem goto_handle (S : Tag) (s : State) : (goto S s).handle = s.handle := by unfold goto; split <;> rfl
@[simp] theorem goto_buf (S : Tag) (s : State) : (goto S s).buf = s.buf := by unfold goto; split <;> rfl
@[simp] theorem goto_shared (S : Tag) (s : State) : (goto S s).shared = s.shared := by unfold goto; split <;> rfl
@[simp] theorem goto_busInitialised (S : Tag) (s : State) : (goto S s).busInitialised = s.busInitialised := by unfold goto; split <;> rfl
@[simp] theorem goto_outstanding (S : Tag) (s : State) : (goto S s).outstanding = s.outstanding := by unfold goto; split <;> rfl
@[simp] theorem goto_held (S : Tag) (s : State) : (goto S s).held = s.held := by unfold goto; split <;> rfl
@[simp] theorem goto_out (S : Tag) (s : State) : (goto S s).out = s.out := by unfold goto; split <;> rfl
@[simp] theorem goto_port (S : Tag) (s : State) : (goto S s).port = s.port := by unfold goto; split <;> rfl
@[simp] theorem goto_scenario (S : Tag) (s : State) : (goto S s).scenario = s.scenario := by unfold goto; split <;> rfl
@[simp] theorem goto_tick (S : Tag) (s : State) : (goto S s).tick = s.tick := by unfold goto; split <;> rfl
@[simp] theorem goto_trace (S : Tag) (s : State) : (goto S s).trace = s.trace := by unfold goto; split <;> rfl

/-! ### waitThen -/

@[simp] theorem waitThen_rom (S : Tag) (s : State) : (waitThen S s).rom = s.rom := by unfold waitThen goto; split <;> rfl
@[simp] theorem waitThen_current (S : Tag) (s : State) : (waitThen S s).current = .waitDriverReady := by unfold waitThen goto; split <;> simp_all
@[simp] theorem waitThen_previous (S : Tag) (s : State) : (waitThen S s).previous = if Tag.waitDriverReady = s.current then s.previous else s.current := by unfold waitThen goto; split <;> simp_all
@[simp] theorem waitThen_next (S : Tag) (s : State) : (waitThen S s).next = S := by unfold waitThen goto; split <;> rfl
@[simp] theorem waitThen_startupInit (S : Tag) (s : State) : (waitThen S s).startupInit = s.startupInit := by unfold waitThen goto; split <;> rfl
@[simp] theorem waitThen_refreshPeriodStart (S : Tag) (s : State) : (waitThen S s).refreshPeriodStart = s.refreshPeriodStart := by unfold waitThen goto; split <;> rfl
@[simp] theorem waitThen_handle (S : Tag) (s : State) : (waitThen S s).handle = s.handle := by unfold waitThen goto; split <;> rfl
@[simp] theorem waitThen_buf (S : Tag) (s : State) : (waitThen S s).buf = s.buf := by unfold waitThen goto; split <;> rfl
@[simp] theorem waitThen_shared (S : Tag) (s : State) : (waitThen S s).shared = s.shared := by unfold waitThen goto; split <;> rfl
@[simp] theorem waitThen_busInitialised (S : Tag) (s : State) : (waitThen S s).busInitialised = s.busInitialised := by unfold waitThen goto; split <;> rfl
@[simp] theorem waitThen_outstanding (S : Tag) (s : State) : (waitThen S s).outstanding = s.outstanding := by unfold waitThen goto; split <;> rfl
@[simp] theorem waitThen_held (S : Tag) (s : State) : (waitThen S s).held = s.held := by unfold waitThen goto; split <;> rfl
@[simp] theorem waitThen_out (S : Tag) (s : State) : (waitThen S s).out = s.out := by unfold waitThen goto; split <;> rfl
@[simp] theorem waitThen_port (S : Tag) (s : State) : (waitThen S s).port = s.port := by unfold waitThen goto; split <;> rfl
@[simp] theorem waitThen_scenario (S : Tag) (s : State) : (waitThen S s).scenario = s.scenario := by unfold waitThen goto; split <;> rfl
@[simp] theorem waitThen_tick (S : Tag) (s : State) : (waitThen S s).tick = s.tick := by unfold waitThen goto; split <;> rfl
@[simp] theorem waitThen_trace (S : Tag) (s : State) : (waitThen S s).trace = s.trace := by unfold waitThen goto; split <;> rfl

/-! ### busInitialize -/

@[simp] theorem busInitialize_rom (s : State) : (busInitialize s).rom = s.rom := by
  unfold busInitialize; split <;> rfl
@[simp] theorem busInitialize_current (s : State) : (busInitialize s).current = s.current := by
  unfold busInitialize; split <;> rfl
@[simp] theorem busInitialize_previous (s : State) : (busInitialize s).previous = s.previous := by
  unfold busInitialize; split <;> rfl
@[simp] theorem busInitialize_next (s : State) : (busInitialize s).next = s.next := by
  unfold busInitialize; split <;> rfl
@[simp] theorem busInitialize_startupInit (s : State) : (busInitialize s).startupInit = s.startupInit := by
  unfold busInitialize; split <;> rfl
@[simp] theorem busInitialize_refreshPeriodStart (s : State) : (busInitialize s).refreshPeriodStart = s.refreshPeriodStart := by
  unfold busInitialize; split <;> rfl
@[simp] theorem busInitialize_handle (s : State) : (busInitialize s).handle = s.handle := by
  unfold busInitialize; split <;> rfl
@[simp] theorem busInitialize_buf (s : State) : (busInitialize s).buf = s.buf := by
  unfold busInitialize; split <;> rfl
@[simp] theorem busInitialize_shared (s : State) : (busInitialize s).shared = s.shared := by
  unfold busInitialize; split <;> rfl
@[simp] theorem busInitialize_busInitialised (s : State) : (busInitialize s).busInitialised = (answeredOk s || s.busInitialised) := by
  unfold busInitialize; split <;> simp_all [present, BusOp.events]
@[simp] theorem busInitialize_outstanding (s : State) : (busInitialize s).outstanding = s.outstanding := by
  unfold busInitialize; split <;> rfl
@[simp] theorem busInitialize_held (s : State) : (busInitialize s).held = s.held := by
  unfold busInitialize; split <;> rfl
@[simp] theorem busInitialize_out (s : State) : (busInitialize s).out = OutPorts.driving s.current .busInit := by
  unfold busInitialize; split <;> simp_all [present, BusOp.events]
@[simp] theorem busInitialize_port (s : State) : (busInitialize s).port = s.port := by
  unfold busInitialize; split <;> rfl
@[simp] theorem busInitialize_scenario (s : State) : (busInitialize s).scenario = s.scenario := by
  unfold busInitialize; split <;> rfl
@[simp] theorem busInitialize_tick (s : State) : (busInitialize s).tick = s.tick := by
  unfold busInitialize; split <;> rfl
@[simp] theorem busInitialize_trace (s : State) : (busInitialize s).trace = s.trace ++ [.busInitialize s.rom.val.busCfg] := by
  unfold busInitialize; split <;> simp_all [present, BusOp.events]

/-! ### attachDevice -/

@[simp] theorem attachDevice_rom (p : Profile) (s : State) : (attachDevice p s).rom = s.rom := by
  unfold attachDevice; split <;> rfl
@[simp] theorem attachDevice_current (p : Profile) (s : State) : (attachDevice p s).current = s.current := by
  unfold attachDevice; split <;> rfl
@[simp] theorem attachDevice_previous (p : Profile) (s : State) : (attachDevice p s).previous = s.previous := by
  unfold attachDevice; split <;> rfl
@[simp] theorem attachDevice_next (p : Profile) (s : State) : (attachDevice p s).next = s.next := by
  unfold attachDevice; split <;> rfl
@[simp] theorem attachDevice_startupInit (p : Profile) (s : State) : (attachDevice p s).startupInit = s.startupInit := by
  unfold attachDevice; split <;> rfl
@[simp] theorem attachDevice_refreshPeriodStart (p : Profile) (s : State) : (attachDevice p s).refreshPeriodStart = s.refreshPeriodStart := by
  unfold attachDevice; split <;> rfl
@[simp] theorem attachDevice_handle (p : Profile) (s : State) : (attachDevice p s).handle = if answeredOk s then some ⟨p, s.port.token⟩ else s.handle := by
  unfold attachDevice; split <;> simp_all [present, BusOp.events]
@[simp] theorem attachDevice_buf (p : Profile) (s : State) : (attachDevice p s).buf = s.buf := by
  unfold attachDevice; split <;> rfl
@[simp] theorem attachDevice_shared (p : Profile) (s : State) : (attachDevice p s).shared = s.shared := by
  unfold attachDevice; split <;> rfl
@[simp] theorem attachDevice_busInitialised (p : Profile) (s : State) : (attachDevice p s).busInitialised = s.busInitialised := by
  unfold attachDevice; split <;> rfl
@[simp] theorem attachDevice_outstanding (p : Profile) (s : State) : (attachDevice p s).outstanding = s.outstanding := by
  unfold attachDevice; split <;> rfl
@[simp] theorem attachDevice_held (p : Profile) (s : State) : (attachDevice p s).held = s.held := by
  unfold attachDevice; split <;> rfl
@[simp] theorem attachDevice_out (p : Profile) (s : State) : (attachDevice p s).out = OutPorts.driving s.current (.attach p) := by
  unfold attachDevice; split <;> simp_all [present, BusOp.events]
@[simp] theorem attachDevice_port (p : Profile) (s : State) : (attachDevice p s).port = s.port := by
  unfold attachDevice; split <;> rfl
@[simp] theorem attachDevice_scenario (p : Profile) (s : State) : (attachDevice p s).scenario = s.scenario := by
  unfold attachDevice; split <;> rfl
@[simp] theorem attachDevice_tick (p : Profile) (s : State) : (attachDevice p s).tick = s.tick := by
  unfold attachDevice; split <;> rfl
@[simp] theorem attachDevice_trace (p : Profile) (s : State) : (attachDevice p s).trace = s.trace ++ [.attachDevice p] := by
  unfold attachDevice; split <;> simp_all [present, BusOp.events]

/-! ### detachDevice -/

@[simp] theorem detachDevice_rom (s : State) : (detachDevice s).rom = s.rom := by
  unfold detachDevice; split <;> rfl
@[simp] theorem detachDevice_current (s : State) : (detachDevice s).current = s.current := by
  unfold detachDevice; split <;> rfl
@[simp] theorem detachDevice_previous (s : State) : (detachDevice s).previous = s.previous := by
  unfold detachDevice; split <;> rfl
@[simp] theorem detachDevice_next (s : State) : (detachDevice s).next = s.next := by
  unfold detachDevice; split <;> rfl
@[simp] theorem detachDevice_startupInit (s : State) : (detachDevice s).startupInit = s.startupInit := by
  unfold detachDevice; split <;> rfl
@[simp] theorem detachDevice_refreshPeriodStart (s : State) : (detachDevice s).refreshPeriodStart = s.refreshPeriodStart := by
  unfold detachDevice; split <;> rfl
@[simp] theorem detachDevice_handle (s : State) : (detachDevice s).handle = if answeredOk s then none else s.handle := by
  unfold detachDevice; split <;> simp_all [present, BusOp.events]
@[simp] theorem detachDevice_buf (s : State) : (detachDevice s).buf = s.buf := by
  unfold detachDevice; split <;> rfl
@[simp] theorem detachDevice_shared (s : State) : (detachDevice s).shared = s.shared := by
  unfold detachDevice; split <;> rfl
@[simp] theorem detachDevice_busInitialised (s : State) : (detachDevice s).busInitialised = s.busInitialised := by
  unfold detachDevice; split <;> rfl
@[simp] theorem detachDevice_outstanding (s : State) : (detachDevice s).outstanding = s.outstanding := by
  unfold detachDevice; split <;> rfl
@[simp] theorem detachDevice_held (s : State) : (detachDevice s).held = s.held := by
  unfold detachDevice; split <;> rfl
@[simp] theorem detachDevice_out (s : State) : (detachDevice s).out = OutPorts.driving s.current .detach := by
  unfold detachDevice; split <;> simp_all [present, BusOp.events]
@[simp] theorem detachDevice_port (s : State) : (detachDevice s).port = s.port := by
  unfold detachDevice; split <;> rfl
@[simp] theorem detachDevice_scenario (s : State) : (detachDevice s).scenario = s.scenario := by
  unfold detachDevice; split <;> rfl
@[simp] theorem detachDevice_tick (s : State) : (detachDevice s).tick = s.tick := by
  unfold detachDevice; split <;> rfl
@[simp] theorem detachDevice_trace (s : State) : (detachDevice s).trace = s.trace ++ [.detachDevice s.handle] := by
  unfold detachDevice; split <;> simp_all [present, BusOp.events]

/-! ### queueTransaction -/

@[simp] theorem queueTransaction_rom (tx : Tx) (s : State) : (queueTransaction tx s).rom = s.rom := by
  unfold queueTransaction; split <;> rfl
@[simp] theorem queueTransaction_current (tx : Tx) (s : State) : (queueTransaction tx s).current = s.current := by
  unfold queueTransaction; split <;> rfl
@[simp] theorem queueTransaction_previous (tx : Tx) (s : State) : (queueTransaction tx s).previous = s.previous := by
  unfold queueTransaction; split <;> rfl
@[simp] theorem queueTransaction_next (tx : Tx) (s : State) : (queueTransaction tx s).next = s.next := by
  unfold queueTransaction; split <;> rfl
@[simp] theorem queueTransaction_startupInit (tx : Tx) (s : State) : (queueTransaction tx s).startupInit = s.startupInit := by
  unfold queueTransaction; split <;> rfl
@[simp] theorem queueTransaction_refreshPeriodStart (tx : Tx) (s : State) : (queueTransaction tx s).refreshPeriodStart = s.refreshPeriodStart := by
  unfold queueTransaction; split <;> rfl
@[simp] theorem queueTransaction_handle (tx : Tx) (s : State) : (queueTransaction tx s).handle = s.handle := by
  unfold queueTransaction; split <;> rfl
@[simp] theorem queueTransaction_buf (tx : Tx) (s : State) : (queueTransaction tx s).buf = s.buf := by
  unfold queueTransaction; split <;> rfl
@[simp] theorem queueTransaction_shared (tx : Tx) (s : State) : (queueTransaction tx s).shared = s.shared := by
  unfold queueTransaction; split <;> rfl
@[simp] theorem queueTransaction_busInitialised (tx : Tx) (s : State) : (queueTransaction tx s).busInitialised = s.busInitialised := by
  unfold queueTransaction; split <;> rfl
@[simp] theorem queueTransaction_outstanding (tx : Tx) (s : State) : (queueTransaction tx s).outstanding = if answeredOk s then s.outstanding + 1 else s.outstanding := by
  unfold queueTransaction; split <;> simp_all [present, BusOp.events]
@[simp] theorem queueTransaction_held (tx : Tx) (s : State) : (queueTransaction tx s).held = s.held := by
  unfold queueTransaction; split <;> rfl
@[simp] theorem queueTransaction_out (tx : Tx) (s : State) : (queueTransaction tx s).out = OutPorts.driving s.current (.queue tx) := by
  unfold queueTransaction; split <;> simp_all [present, BusOp.events]
@[simp] theorem queueTransaction_port (tx : Tx) (s : State) : (queueTransaction tx s).port = s.port := by
  unfold queueTransaction; split <;> rfl
@[simp] theorem queueTransaction_scenario (tx : Tx) (s : State) : (queueTransaction tx s).scenario = s.scenario := by
  unfold queueTransaction; split <;> rfl
@[simp] theorem queueTransaction_tick (tx : Tx) (s : State) : (queueTransaction tx s).tick = s.tick := by
  unfold queueTransaction; split <;> rfl
@[simp] theorem queueTransaction_trace (tx : Tx) (s : State) : (queueTransaction tx s).trace = s.trace ++ [.queueTransaction s.handle tx s.rom.val.queueTimeout] := by
  unfold queueTransaction; split <;> simp_all [present, BusOp.events]

/-! ### awaitPending -/

@[simp] theorem awaitPending_rom (s : State) : (awaitPending s).rom = s.rom := rfl
@[simp] theorem awaitPending_current (s : State) : (awaitPending s).current = s.current := rfl
@[simp] theorem awaitPending_previous (s : State) : (awaitPending s).previous = s.previous := rfl
@[simp] theorem awaitPending_next (s : State) : (awaitPending s).next = s.next := rfl
@[simp] theorem awaitPending_startupInit (s : State) : (awaitPending s).startupInit = s.startupInit := rfl
@[simp] theorem awaitPending_refreshPeriodStart (s : State) : (awaitPending s).refreshPeriodStart = s.refreshPeriodStart := rfl
@[simp] theorem awaitPending_handle (s : State) : (awaitPending s).handle = s.handle := rfl
@[simp] theorem awaitPending_buf (s : State) : (awaitPending s).buf = s.buf := rfl
@[simp] theorem awaitPending_shared (s : State) : (awaitPending s).shared = s.shared := rfl
@[simp] theorem awaitPending_busInitialised (s : State) : (awaitPending s).busInitialised = s.busInitialised := rfl
@[simp] theorem awaitPending_outstanding (s : State) : (awaitPending s).outstanding = s.outstanding := rfl
@[simp] theorem awaitPending_held (s : State) : (awaitPending s).held = true := rfl
@[simp] theorem awaitPending_out (s : State) : (awaitPending s).out = OutPorts.driving s.current .await := rfl
@[simp] theorem awaitPending_port (s : State) : (awaitPending s).port = s.port := rfl
@[simp] theorem awaitPending_scenario (s : State) : (awaitPending s).scenario = s.scenario := rfl
@[simp] theorem awaitPending_tick (s : State) : (awaitPending s).tick = s.tick := rfl
@[simp] theorem awaitPending_trace (s : State) : (awaitPending s).trace = if s.held then s.trace else s.trace ++ [.awaitResult s.handle] := rfl

/-! ### awaitResult -/

@[simp] theorem awaitResult_rom (s : State) : (awaitResult s).rom = s.rom := by
  unfold awaitResult; split <;> rfl
@[simp] theorem awaitResult_current (s : State) : (awaitResult s).current = s.current := by
  unfold awaitResult; split <;> rfl
@[simp] theorem awaitResult_previous (s : State) : (awaitResult s).previous = s.previous := by
  unfold awaitResult; split <;> rfl
@[simp] theorem awaitResult_next (s : State) : (awaitResult s).next = s.next := by
  unfold awaitResult; split <;> rfl
@[simp] theorem awaitResult_startupInit (s : State) : (awaitResult s).startupInit = s.startupInit := by
  unfold awaitResult; split <;> rfl
@[simp] theorem awaitResult_refreshPeriodStart (s : State) : (awaitResult s).refreshPeriodStart = s.refreshPeriodStart := by
  unfold awaitResult; split <;> rfl
@[simp] theorem awaitResult_handle (s : State) : (awaitResult s).handle = s.handle := by
  unfold awaitResult; split <;> rfl
@[simp] theorem awaitResult_buf (s : State) : (awaitResult s).buf = s.buf := by
  unfold awaitResult; split <;> rfl
@[simp] theorem awaitResult_shared (s : State) : (awaitResult s).shared = s.shared := by
  unfold awaitResult; split <;> rfl
@[simp] theorem awaitResult_busInitialised (s : State) : (awaitResult s).busInitialised = s.busInitialised := by
  unfold awaitResult; split <;> rfl
@[simp] theorem awaitResult_outstanding (s : State) : (awaitResult s).outstanding = if s.port.rspValid then s.outstanding - 1 else s.outstanding := by
  unfold awaitResult; split <;> simp_all [awaitReturned, awaitPending, present, BusOp.events]
@[simp] theorem awaitResult_held (s : State) : (awaitResult s).held = !s.port.rspValid := by
  unfold awaitResult; split <;> simp_all [awaitReturned, awaitPending, present, BusOp.events]
@[simp] theorem awaitResult_out (s : State) : (awaitResult s).out = OutPorts.driving s.current .await := by
  unfold awaitResult; split <;> simp_all [awaitReturned, awaitPending, present, BusOp.events]
@[simp] theorem awaitResult_port (s : State) : (awaitResult s).port = s.port := by
  unfold awaitResult; split <;> rfl
@[simp] theorem awaitResult_scenario (s : State) : (awaitResult s).scenario = s.scenario := by
  unfold awaitResult; split <;> rfl
@[simp] theorem awaitResult_tick (s : State) : (awaitResult s).tick = s.tick := by
  unfold awaitResult; split <;> rfl
@[simp] theorem awaitResult_trace (s : State) : (awaitResult s).trace = if s.held then s.trace else s.trace ++ [.awaitResult s.handle] := by
  unfold awaitResult; split <;> simp_all [awaitReturned, awaitPending, present, BusOp.events]

/-! ### raiseFailure -/

@[simp] theorem raiseFailure_rom (c : FailureCause) (s : State) : (raiseFailure c s).rom = s.rom := rfl
@[simp] theorem raiseFailure_current (c : FailureCause) (s : State) : (raiseFailure c s).current = s.current := rfl
@[simp] theorem raiseFailure_previous (c : FailureCause) (s : State) : (raiseFailure c s).previous = s.previous := rfl
@[simp] theorem raiseFailure_next (c : FailureCause) (s : State) : (raiseFailure c s).next = s.next := rfl
@[simp] theorem raiseFailure_startupInit (c : FailureCause) (s : State) : (raiseFailure c s).startupInit = s.startupInit := rfl
@[simp] theorem raiseFailure_refreshPeriodStart (c : FailureCause) (s : State) : (raiseFailure c s).refreshPeriodStart = s.refreshPeriodStart := rfl
@[simp] theorem raiseFailure_handle (c : FailureCause) (s : State) : (raiseFailure c s).handle = s.handle := rfl
@[simp] theorem raiseFailure_buf (c : FailureCause) (s : State) : (raiseFailure c s).buf = s.buf := rfl
@[simp] theorem raiseFailure_shared (c : FailureCause) (s : State) : (raiseFailure c s).shared = s.shared := rfl
@[simp] theorem raiseFailure_busInitialised (c : FailureCause) (s : State) : (raiseFailure c s).busInitialised = s.busInitialised := rfl
@[simp] theorem raiseFailure_outstanding (c : FailureCause) (s : State) : (raiseFailure c s).outstanding = s.outstanding := rfl
@[simp] theorem raiseFailure_held (c : FailureCause) (s : State) : (raiseFailure c s).held = s.held := rfl
@[simp] theorem raiseFailure_out (c : FailureCause) (s : State) : (raiseFailure c s).out = { s.out with logValid := true, logClass := c.cls.code } := rfl
@[simp] theorem raiseFailure_port (c : FailureCause) (s : State) : (raiseFailure c s).port = s.port := rfl
@[simp] theorem raiseFailure_scenario (c : FailureCause) (s : State) : (raiseFailure c s).scenario = s.scenario := rfl
@[simp] theorem raiseFailure_tick (c : FailureCause) (s : State) : (raiseFailure c s).tick = s.tick := rfl
@[simp] theorem raiseFailure_trace (c : FailureCause) (s : State) : (raiseFailure c s).trace = s.trace ++ [.log c.cls s.current] := rfl

/-! ### envMove -/

@[simp] theorem envMove_rom (s : State) : (envMove s).rom = s.rom := rfl
@[simp] theorem envMove_current (s : State) : (envMove s).current = s.current := rfl
@[simp] theorem envMove_previous (s : State) : (envMove s).previous = s.previous := rfl
@[simp] theorem envMove_next (s : State) : (envMove s).next = s.next := rfl
@[simp] theorem envMove_startupInit (s : State) : (envMove s).startupInit = s.startupInit := rfl
@[simp] theorem envMove_refreshPeriodStart (s : State) : (envMove s).refreshPeriodStart = s.refreshPeriodStart := rfl
@[simp] theorem envMove_handle (s : State) : (envMove s).handle = s.handle := rfl
@[simp] theorem envMove_buf (s : State) : (envMove s).buf = s.buf := rfl
@[simp] theorem envMove_shared (s : State) : (envMove s).shared = applyPhases s.shared (s.port.moves.take 1) := rfl
@[simp] theorem envMove_busInitialised (s : State) : (envMove s).busInitialised = s.busInitialised := rfl
@[simp] theorem envMove_outstanding (s : State) : (envMove s).outstanding = s.outstanding := rfl
@[simp] theorem envMove_held (s : State) : (envMove s).held = s.held := rfl
@[simp] theorem envMove_out (s : State) : (envMove s).out = s.out := rfl
@[simp] theorem envMove_port (s : State) : (envMove s).port = { s.port with moves := s.port.moves.drop 1 } := rfl
@[simp] theorem envMove_scenario (s : State) : (envMove s).scenario = s.scenario := rfl
@[simp] theorem envMove_tick (s : State) : (envMove s).tick = s.tick := rfl
@[simp] theorem envMove_trace (s : State) : (envMove s).trace = s.trace := rfl

/-! ### idleEdge -/

@[simp] theorem idleEdge_rom (s : State) : (idleEdge s).rom = s.rom := rfl
@[simp] theorem idleEdge_current (s : State) : (idleEdge s).current = s.current := rfl
@[simp] theorem idleEdge_previous (s : State) : (idleEdge s).previous = s.previous := rfl
@[simp] theorem idleEdge_next (s : State) : (idleEdge s).next = s.next := rfl
@[simp] theorem idleEdge_startupInit (s : State) : (idleEdge s).startupInit = s.startupInit := rfl
@[simp] theorem idleEdge_refreshPeriodStart (s : State) : (idleEdge s).refreshPeriodStart = s.refreshPeriodStart := rfl
@[simp] theorem idleEdge_handle (s : State) : (idleEdge s).handle = s.handle := rfl
@[simp] theorem idleEdge_buf (s : State) : (idleEdge s).buf = s.buf := rfl
@[simp] theorem idleEdge_shared (s : State) : (idleEdge s).shared = s.shared := rfl
@[simp] theorem idleEdge_busInitialised (s : State) : (idleEdge s).busInitialised = s.busInitialised := rfl
@[simp] theorem idleEdge_outstanding (s : State) : (idleEdge s).outstanding = s.outstanding := rfl
@[simp] theorem idleEdge_held (s : State) : (idleEdge s).held = s.held := rfl
@[simp] theorem idleEdge_out (s : State) : (idleEdge s).out = idlePorts s := rfl
@[simp] theorem idleEdge_port (s : State) : (idleEdge s).port = s.port := rfl
@[simp] theorem idleEdge_scenario (s : State) : (idleEdge s).scenario = s.scenario := rfl
@[simp] theorem idleEdge_tick (s : State) : (idleEdge s).tick = s.tick := rfl
@[simp] theorem idleEdge_trace (s : State) : (idleEdge s).trace = s.trace := rfl

/-! ### idlePorts -/

@[simp] theorem idlePorts_stateDbg (s : State) : (idlePorts s).stateDbg = s.current.code := rfl
@[simp] theorem idlePorts_logValid (s : State) : (idlePorts s).logValid = false := rfl
@[simp] theorem idlePorts_logClass (s : State) : (idlePorts s).logClass = 0#2 := rfl

/-! ### settle -/

@[simp] theorem settle_rom (s : State) : (settle s).rom = s.rom := rfl
@[simp] theorem settle_current (s : State) : (settle s).current = s.current := rfl
@[simp] theorem settle_previous (s : State) : (settle s).previous = s.previous := rfl
@[simp] theorem settle_next (s : State) : (settle s).next = s.next := rfl
@[simp] theorem settle_startupInit (s : State) : (settle s).startupInit = s.startupInit := rfl
@[simp] theorem settle_refreshPeriodStart (s : State) : (settle s).refreshPeriodStart = s.refreshPeriodStart := rfl
@[simp] theorem settle_handle (s : State) : (settle s).handle = s.handle := rfl
@[simp] theorem settle_buf (s : State) : (settle s).buf = s.buf := rfl
@[simp] theorem settle_shared (s : State) : (settle s).shared = applyPhases s.shared s.port.moves := rfl
@[simp] theorem settle_busInitialised (s : State) : (settle s).busInitialised = s.busInitialised := rfl
@[simp] theorem settle_outstanding (s : State) : (settle s).outstanding = s.outstanding := rfl
@[simp] theorem settle_held (s : State) : (settle s).held = s.held := rfl
@[simp] theorem settle_out (s : State) : (settle s).out = s.out := rfl
@[simp] theorem settle_port (s : State) : (settle s).port = { s.port with moves := [] } := rfl
@[simp] theorem settle_scenario (s : State) : (settle s).scenario = s.scenario := rfl
@[simp] theorem settle_tick (s : State) : (settle s).tick = s.tick := rfl
@[simp] theorem settle_trace (s : State) : (settle s).trace = s.trace := rfl

/-! ### latch -/

@[simp] theorem latch_rom (s : State) (i : Input) (rest : List Input) : (latch s i rest).rom = s.rom := rfl
@[simp] theorem latch_current (s : State) (i : Input) (rest : List Input) : (latch s i rest).current = s.current := rfl
@[simp] theorem latch_previous (s : State) (i : Input) (rest : List Input) : (latch s i rest).previous = s.previous := rfl
@[simp] theorem latch_next (s : State) (i : Input) (rest : List Input) : (latch s i rest).next = s.next := rfl
@[simp] theorem latch_startupInit (s : State) (i : Input) (rest : List Input) : (latch s i rest).startupInit = s.startupInit := rfl
@[simp] theorem latch_refreshPeriodStart (s : State) (i : Input) (rest : List Input) : (latch s i rest).refreshPeriodStart = s.refreshPeriodStart := rfl
@[simp] theorem latch_handle (s : State) (i : Input) (rest : List Input) : (latch s i rest).handle = s.handle := rfl
@[simp] theorem latch_buf (s : State) (i : Input) (rest : List Input) : (latch s i rest).buf = s.buf := rfl
@[simp] theorem latch_shared (s : State) (i : Input) (rest : List Input) : (latch s i rest).shared = s.shared := rfl
@[simp] theorem latch_busInitialised (s : State) (i : Input) (rest : List Input) : (latch s i rest).busInitialised = s.busInitialised := rfl
@[simp] theorem latch_outstanding (s : State) (i : Input) (rest : List Input) : (latch s i rest).outstanding = s.outstanding := rfl
@[simp] theorem latch_held (s : State) (i : Input) (rest : List Input) : (latch s i rest).held = s.held := rfl
@[simp] theorem latch_out (s : State) (i : Input) (rest : List Input) : (latch s i rest).out = s.out := rfl
@[simp] theorem latch_port (s : State) (i : Input) (rest : List Input) : (latch s i rest).port = i := rfl
@[simp] theorem latch_scenario (s : State) (i : Input) (rest : List Input) : (latch s i rest).scenario = rest := rfl
@[simp] theorem latch_tick (s : State) (i : Input) (rest : List Input) : (latch s i rest).tick = s.tick + 1 := rfl
@[simp] theorem latch_trace (s : State) (i : Input) (rest : List Input) : (latch s i rest).trace = s.trace := rfl

/-! ### The environment's answers under the operations -/

@[simp] theorem answeredOk_emit (s : State) (e : Event) : answeredOk (emit s e) = answeredOk s := by simp [answeredOk]
@[simp] theorem now_emit (s : State) (e : Event) : now (emit s e) = now s := by simp [now]

@[simp] theorem answeredOk_present (o : BusOp) (s : State) : answeredOk (present o s) = answeredOk s := by simp [answeredOk]
@[simp] theorem now_present (o : BusOp) (s : State) : now (present o s) = now s := by simp [now]

@[simp] theorem answeredOk_readClock (s : State) : answeredOk (readClock s) = answeredOk s := by simp [answeredOk]
@[simp] theorem now_readClock (s : State) : now (readClock s) = now s := by simp [now]

@[simp] theorem answeredOk_startPeriod (s : State) : answeredOk (startPeriod s) = answeredOk s := by simp [answeredOk]
@[simp] theorem now_startPeriod (s : State) : now (startPeriod s) = now s := by simp [now]

@[simp] theorem answeredOk_clearStartup (s : State) : answeredOk (clearStartup s) = answeredOk s := by simp [answeredOk]
@[simp] theorem now_clearStartup (s : State) : now (clearStartup s) = now s := by simp [now]

@[simp] theorem answeredOk_goto (S : Tag) (s : State) : answeredOk (goto S s) = answeredOk s := by simp [answeredOk]
@[simp] theorem now_goto (S : Tag) (s : State) : now (goto S s) = now s := by simp [now]

@[simp] theorem answeredOk_waitThen (S : Tag) (s : State) : answeredOk (waitThen S s) = answeredOk s := by simp [answeredOk]
@[simp] theorem now_waitThen (S : Tag) (s : State) : now (waitThen S s) = now s := by simp [now]

@[simp] theorem answeredOk_busInitialize (s : State) : answeredOk (busInitialize s) = answeredOk s := by simp [answeredOk]
@[simp] theorem now_busInitialize (s : State) : now (busInitialize s) = now s := by simp [now]

@[simp] theorem answeredOk_attachDevice (p : Profile) (s : State) : answeredOk (attachDevice p s) = answeredOk s := by simp [answeredOk]
@[simp] theorem now_attachDevice (p : Profile) (s : State) : now (attachDevice p s) = now s := by simp [now]

@[simp] theorem answeredOk_detachDevice (s : State) : answeredOk (detachDevice s) = answeredOk s := by simp [answeredOk]
@[simp] theorem now_detachDevice (s : State) : now (detachDevice s) = now s := by simp [now]

@[simp] theorem answeredOk_queueTransaction (tx : Tx) (s : State) : answeredOk (queueTransaction tx s) = answeredOk s := by simp [answeredOk]
@[simp] theorem now_queueTransaction (tx : Tx) (s : State) : now (queueTransaction tx s) = now s := by simp [now]

@[simp] theorem answeredOk_awaitPending (s : State) : answeredOk (awaitPending s) = answeredOk s := by simp [answeredOk]
@[simp] theorem now_awaitPending (s : State) : now (awaitPending s) = now s := by simp [now]

@[simp] theorem answeredOk_awaitResult (s : State) : answeredOk (awaitResult s) = answeredOk s := by simp [answeredOk]
@[simp] theorem now_awaitResult (s : State) : now (awaitResult s) = now s := by simp [now]

@[simp] theorem answeredOk_raiseFailure (c : FailureCause) (s : State) : answeredOk (raiseFailure c s) = answeredOk s := by simp [answeredOk]
@[simp] theorem now_raiseFailure (c : FailureCause) (s : State) : now (raiseFailure c s) = now s := by simp [now]

@[simp] theorem answeredOk_envMove (s : State) : answeredOk (envMove s) = answeredOk s := by simp [answeredOk]
@[simp] theorem now_envMove (s : State) : now (envMove s) = now s := by simp [now]

@[simp] theorem answeredOk_idleEdge (s : State) : answeredOk (idleEdge s) = answeredOk s := rfl
@[simp] theorem now_idleEdge (s : State) : now (idleEdge s) = now s := rfl

@[simp] theorem answeredOk_settle (s : State) : answeredOk (settle s) = answeredOk s := by simp [answeredOk]
@[simp] theorem now_settle (s : State) : now (settle s) = now s := by simp [now]

end Sys2Proof.Machine
end

