-- ==== Sys2Proof/Laws/Encoder.lean ====
section
/-!
SUPPORT. What the Encoder does to each field of State, and how far its reads consume the environment's phases.
-/

namespace Sys2Proof.Machine

/-! ## Phases -/

@[simp] theorem applyPhases_nil (sh : Shared) : applyPhases sh [] = sh := rfl

theorem applyPhases_append (sh : Shared) (xs ys : List (List EnvWrite)) :
    applyPhases sh (xs ++ ys) = applyPhases (applyPhases sh xs) ys := by
  simp [applyPhases]

/-- The phases of a later read follow those of the earlier ones. -/
theorem applyPhases_take_drop (sh : Shared) (moves : List (List EnvWrite)) (a b : Nat) :
    applyPhases (applyPhases sh (moves.take a)) ((moves.drop a).take b) = applyPhases sh (moves.take (a + b)) := by
  rw [← applyPhases_append, ← List.take_add]

/-- What is left after the reads is what settles at the end of the edge. -/
theorem applyPhases_take_then_rest (sh : Shared) (moves : List (List EnvWrite)) (a : Nat) :
    applyPhases (applyPhases sh (moves.take a)) (moves.drop a) = applyPhases sh moves := by
  rw [← applyPhases_append, List.take_append_drop]

/-! ## One digit -/

theorem encodeDigit_snapshot (d : Fin 5) (s : State) :
    (encodeDigit d s).1 = atDigit (sharedAt s 1).digits d := rfl

theorem encodeDigit_buf (d : Fin 5) (s : State) :
    (encodeDigit d s).2.buf
      = placeMask d.val (digitMask s.rom (atDigit (sharedAt s 1).digits d) (atDigit (sharedAt s 2).digitBlink d).toggle)
          s.buf := by
  have h : applyPhases (applyPhases s.shared (s.port.moves.take 1)) ((s.port.moves.drop 1).take 1)
      = applyPhases s.shared (s.port.moves.take 2) := applyPhases_take_drop _ _ 1 1
  simp only [encodeDigit, readDigit, readDigitToggle, envMove, sharedAt, h]

theorem encodeDigit_shared (d : Fin 5) (s : State) :
    (encodeDigit d s).2.shared = applyPhases s.shared (s.port.moves.take 2) :=
  applyPhases_take_drop _ _ 1 1

theorem encodeDigit_port (d : Fin 5) (s : State) :
    (encodeDigit d s).2.port = { s.port with moves := s.port.moves.drop 2 } := by
  simp [encodeDigit, readDigit, readDigitToggle, envMove]

/-- The reads of one digit move every later read on by two phases. -/
theorem encodeDigit_sharedAt (d : Fin 5) (s : State) (k : Nat) :
    sharedAt (encodeDigit d s).2 k = sharedAt s (2 + k) := by
  simp only [sharedAt, encodeDigit_shared, encodeDigit_port]
  exact applyPhases_take_drop _ _ 2 k

@[simp] theorem encodeDigit_rom (d : Fin 5) (s : State) : (encodeDigit d s).2.rom = s.rom := rfl
@[simp] theorem encodeDigit_current (d : Fin 5) (s : State) : (encodeDigit d s).2.current = s.current := rfl
@[simp] theorem encodeDigit_previous (d : Fin 5) (s : State) : (encodeDigit d s).2.previous = s.previous := rfl
@[simp] theorem encodeDigit_next (d : Fin 5) (s : State) : (encodeDigit d s).2.next = s.next := rfl
@[simp] theorem encodeDigit_startupInit (d : Fin 5) (s : State) : (encodeDigit d s).2.startupInit = s.startupInit := rfl
@[simp] theorem encodeDigit_refreshPeriodStart (d : Fin 5) (s : State) : (encodeDigit d s).2.refreshPeriodStart = s.refreshPeriodStart := rfl
@[simp] theorem encodeDigit_handle (d : Fin 5) (s : State) : (encodeDigit d s).2.handle = s.handle := rfl
@[simp] theorem encodeDigit_busInitialised (d : Fin 5) (s : State) : (encodeDigit d s).2.busInitialised = s.busInitialised := rfl
@[simp] theorem encodeDigit_outstanding (d : Fin 5) (s : State) : (encodeDigit d s).2.outstanding = s.outstanding := rfl
@[simp] theorem encodeDigit_held (d : Fin 5) (s : State) : (encodeDigit d s).2.held = s.held := rfl
@[simp] theorem encodeDigit_out (d : Fin 5) (s : State) : (encodeDigit d s).2.out = s.out := rfl
@[simp] theorem encodeDigit_scenario (d : Fin 5) (s : State) : (encodeDigit d s).2.scenario = s.scenario := rfl
@[simp] theorem encodeDigit_tick (d : Fin 5) (s : State) : (encodeDigit d s).2.tick = s.tick := rfl
@[simp] theorem encodeDigit_trace (d : Fin 5) (s : State) : (encodeDigit d s).2.trace = s.trace := rfl

/-! ## The shared bit -/

theorem encodeSharedBit_buf (D0 : DisplayDigit) (s : State) :
    (encodeSharedBit D0 s).buf
      = if sharedBitSet D0.decimalPoint (iconBlinkOf (sharedAt s 1) s.rom.val.iconWifi) then
          placeBit digitBitOffset s.buf s.rom.val.segDp true
        else s.buf := rfl

theorem encodeSharedBit_shared (D0 : DisplayDigit) (s : State) :
    (encodeSharedBit D0 s).shared = applyPhases s.shared (s.port.moves.take 1) := rfl

theorem encodeSharedBit_port (D0 : DisplayDigit) (s : State) :
    (encodeSharedBit D0 s).port = { s.port with moves := s.port.moves.drop 1 } := rfl

@[simp] theorem encodeSharedBit_rom (D0 : DisplayDigit) (s : State) : (encodeSharedBit D0 s).rom = s.rom := rfl

@[simp] theorem encodeSharedBit_current (D0 : DisplayDigit) (s : State) : (encodeSharedBit D0 s).current = s.current := rfl

@[simp] theorem encodeSharedBit_previous (D0 : DisplayDigit) (s : State) : (encodeSharedBit D0 s).previous = s.previous := rfl

@[simp] theorem encodeSharedBit_next (D0 : DisplayDigit) (s : State) : (encodeSharedBit D0 s).next = s.next := rfl

@[simp] theorem encodeSharedBit_startupInit (D0 : DisplayDigit) (s : State) : (encodeSharedBit D0 s).startupInit = s.startupInit := rfl

@[simp] theorem encodeSharedBit_refreshPeriodStart (D0 : DisplayDigit) (s : State) : (encodeSharedBit D0 s).refreshPeriodStart = s.refreshPeriodStart := rfl

@[simp] theorem encodeSharedBit_handle (D0 : DisplayDigit) (s : State) : (encodeSharedBit D0 s).handle = s.handle := rfl

@[simp] theorem encodeSharedBit_busInitialised (D0 : DisplayDigit) (s : State) : (encodeSharedBit D0 s).busInitialised = s.busInitialised := rfl

@[simp] theorem encodeSharedBit_outstanding (D0 : DisplayDigit) (s : State) : (encodeSharedBit D0 s).outstanding = s.outstanding := rfl

@[simp] theorem encodeSharedBit_held (D0 : DisplayDigit) (s : State) : (encodeSharedBit D0 s).held = s.held := rfl

@[simp] theorem encodeSharedBit_out (D0 : DisplayDigit) (s : State) : (encodeSharedBit D0 s).out = s.out := rfl

@[simp] theorem encodeSharedBit_scenario (D0 : DisplayDigit) (s : State) : (encodeSharedBit D0 s).scenario = s.scenario := rfl

@[simp] theorem encodeSharedBit_tick (D0 : DisplayDigit) (s : State) : (encodeSharedBit D0 s).tick = s.tick := rfl

@[simp] theorem encodeSharedBit_trace (D0 : DisplayDigit) (s : State) : (encodeSharedBit D0 s).trace = s.trace := rfl

/-! ## The clear -/

theorem eraseFrame_buf (s : State) : (eraseFrame s).buf = clearBuf s.buf := rfl

theorem eraseFrame_sharedAt (s : State) (k : Nat) : sharedAt (eraseFrame s) k = sharedAt s k := rfl

@[simp] theorem eraseFrame_rom (s : State) : (eraseFrame s).rom = s.rom := rfl
@[simp] theorem eraseFrame_current (s : State) : (eraseFrame s).current = s.current := rfl
@[simp] theorem eraseFrame_previous (s : State) : (eraseFrame s).previous = s.previous := rfl
@[simp] theorem eraseFrame_next (s : State) : (eraseFrame s).next = s.next := rfl
@[simp] theorem eraseFrame_startupInit (s : State) : (eraseFrame s).startupInit = s.startupInit := rfl
@[simp] theorem eraseFrame_refreshPeriodStart (s : State) : (eraseFrame s).refreshPeriodStart = s.refreshPeriodStart := rfl
@[simp] theorem eraseFrame_handle (s : State) : (eraseFrame s).handle = s.handle := rfl
@[simp] theorem eraseFrame_busInitialised (s : State) : (eraseFrame s).busInitialised = s.busInitialised := rfl
@[simp] theorem eraseFrame_outstanding (s : State) : (eraseFrame s).outstanding = s.outstanding := rfl
@[simp] theorem eraseFrame_held (s : State) : (eraseFrame s).held = s.held := rfl
@[simp] theorem eraseFrame_out (s : State) : (eraseFrame s).out = s.out := rfl
@[simp] theorem eraseFrame_port (s : State) : (eraseFrame s).port = s.port := rfl
@[simp] theorem eraseFrame_shared (s : State) : (eraseFrame s).shared = s.shared := rfl
@[simp] theorem eraseFrame_scenario (s : State) : (eraseFrame s).scenario = s.scenario := rfl
@[simp] theorem eraseFrame_tick (s : State) : (eraseFrame s).tick = s.tick := rfl
@[simp] theorem eraseFrame_trace (s : State) : (eraseFrame s).trace = s.trace := rfl

/-! ## The whole frame -/

theorem encodeFrame_shared (s : State) : (encodeFrame s).shared = sharedAt s 11 := by
  simp only [encodeFrame, encodeSharedBit_shared, encodeDigit_shared, encodeDigit_port, eraseFrame_shared, eraseFrame_port,
    List.drop_drop, sharedAt,
    applyPhases_take_drop]

theorem encodeFrame_port (s : State) : (encodeFrame s).port = { s.port with moves := s.port.moves.drop 11 } := by
  simp only [encodeFrame, encodeSharedBit_port, encodeDigit_port, eraseFrame_port, List.drop_drop]

@[simp] theorem encodeFrame_rom (s : State) : (encodeFrame s).rom = s.rom := by
  simp [encodeFrame]

@[simp] theorem encodeFrame_current (s : State) : (encodeFrame s).current = s.current := by
  simp [encodeFrame]

@[simp] theorem encodeFrame_previous (s : State) : (encodeFrame s).previous = s.previous := by
  simp [encodeFrame]

@[simp] theorem encodeFrame_next (s : State) : (encodeFrame s).next = s.next := by
  simp [encodeFrame]

@[simp] theorem encodeFrame_startupInit (s : State) : (encodeFrame s).startupInit = s.startupInit := by
  simp [encodeFrame]

@[simp] theorem encodeFrame_refreshPeriodStart (s : State) : (encodeFrame s).refreshPeriodStart = s.refreshPeriodStart := by
  simp [encodeFrame]

@[simp] theorem encodeFrame_handle (s : State) : (encodeFrame s).handle = s.handle := by
  simp [encodeFrame]

@[simp] theorem encodeFrame_busInitialised (s : State) : (encodeFrame s).busInitialised = s.busInitialised := by
  simp [encodeFrame]

@[simp] theorem encodeFrame_outstanding (s : State) : (encodeFrame s).outstanding = s.outstanding := by
  simp [encodeFrame]

@[simp] theorem encodeFrame_held (s : State) : (encodeFrame s).held = s.held := by
  simp [encodeFrame]

@[simp] theorem encodeFrame_out (s : State) : (encodeFrame s).out = s.out := by
  simp [encodeFrame]

@[simp] theorem encodeFrame_scenario (s : State) : (encodeFrame s).scenario = s.scenario := by
  simp [encodeFrame]

@[simp] theorem encodeFrame_tick (s : State) : (encodeFrame s).tick = s.tick := by
  simp [encodeFrame]

@[simp] theorem encodeFrame_trace (s : State) : (encodeFrame s).trace = s.trace := by
  simp [encodeFrame]

@[simp] theorem answeredOk_encodeFrame (s : State) : answeredOk (encodeFrame s) = answeredOk s := by
  simp [answeredOk, encodeFrame_port]

@[simp] theorem now_encodeFrame (s : State) : now (encodeFrame s) = now s := by
  simp [now, encodeFrame_port]

/-- The mask placed for a digit whose snapshot is read number k of the tick and whose toggle is read k+1 (R54). -/
def maskAt (s : State) (d : Fin 5) (k : Nat) : Mask :=
  digitMask s.rom (atDigit (sharedAt s k).digits d) (atDigit (sharedAt s (k + 1)).digitBlink d).toggle

/-- `BUF` after steps 1 to 3: cleared, then five columns placed left to right (R141). -/
def placedDigits (s : State) : Memory :=
  placeMask (4 : Fin 5).val (maskAt s 4 9) (placeMask (3 : Fin 5).val (maskAt s 3 7)
    (placeMask (2 : Fin 5).val (maskAt s 2 5) (placeMask (1 : Fin 5).val (maskAt s 1 3)
      (placeMask (0 : Fin 5).val (maskAt s 0 1) (clearBuf s.buf)))))

/-- `BUF` after the whole run: the columns, and the shared bit set if its condition holds (R141, R147). -/
theorem encodeFrame_buf (s : State) :
    (encodeFrame s).buf
      = if sharedBitSet (atDigit (sharedAt s 1).digits 0).decimalPoint
            (iconBlinkOf (sharedAt s 11) s.rom.val.iconWifi) then
          placeBit digitBitOffset (placedDigits s) s.rom.val.segDp true
        else placedDigits s := by
  simp only [encodeFrame, encodeSharedBit_buf, encodeDigit_buf, encodeDigit_rom, encodeDigit_sharedAt,
    encodeDigit_snapshot, eraseFrame_sharedAt, eraseFrame_buf, eraseFrame_rom, placedDigits, maskAt, Nat.reduceAdd]

theorem segDp_lt (rom : Rom) : rom.val.segDp < bufBytes := by
  have h := rom.property
  simp only [Params.wf, Bool.and_eq_true, decide_eq_true_eq] at h
  exact h.1.1.1.1.1.1.1.1.1.1.1

/-- The table never lights the decimal point (R142 (d)). -/
theorem segtabEntry_segDp (rom : Rom) (c : Byte) : (segtabEntry rom c).getLsbD rom.val.segDp = false := by
  have h := rom.property
  simp only [Params.wf, Bool.and_eq_true, decide_eq_true_eq, segtabOk, beq_iff_eq] at h
  obtain ⟨hlen, hall⟩ := h.1.1.1.1.1.1.1.1.1.1.2
  have hc : c.toNat < rom.val.segtab.length := by
    have := c.isLt
    omega
  unfold segtabEntry
  rw [List.getD_eq_getElem _ _ hc]
  have hm := List.all_eq_true.1 hall _ (List.getElem_mem hc)
  simp at hm
  exact hm.2

theorem toggleFactor_shift_getLsbD (b : Bool) (n a : Nat) (ha : a < 32) :
    (toggleFactor b <<< n).getLsbD a = (decide (a = n) && b) := by
  unfold toggleFactor
  cases b
  · simp
  · by_cases h : a = n
    · subst h
      simp [ha]
    · rcases Nat.lt_or_ge a n with h' | h'
      · simp [h, h']
      · have : a - n ≠ 0 := by omega
        simp [h, this]

/-- A digit's mask bit by bit: its gated decimal point at `SEG_DP`, its gated table bit elsewhere (R144, R146). -/
theorem digitMask_getLsbD (rom : Rom) (D : DisplayDigit) (toggle : Bool) (a : Nat) (ha : a < 16) :
    (digitMask rom D toggle).getLsbD a
      = if a = rom.val.segDp then (D.decimalPoint && toggle)
        else ((segtabEntry rom D.character).getLsbD a && toggle) := by
  simp only [digitMask, mergeDecimalPoint, gateMask, gateDecimalPoint, BitVec.getLsbD_or,
    toggleFactor_shift_getLsbD _ _ a (by omega : a < 32)]
  cases toggle
  · simp [toggleFactor]
  · by_cases h : a = rom.val.segDp
    · subst h
      simp [segtabEntry_segDp, toggleFactor]
    · simp [h, toggleFactor]

/-- A byte of `BUF` after steps 1 to 3, bit by bit: one column per digit at bits 2 to 6, the other bits 0 (R145). -/
theorem placedDigits_getLsbD (s : State) (a i : Nat) (ha : a < bufBytes) (hi : i < 8) :
    ∃ b, Table.read (placedDigits s) a = some b
      ∧ b.getLsbD i = if i = 6 then (maskAt s 4 9).getLsbD a
        else if i = 5 then (maskAt s 3 7).getLsbD a
        else if i = 4 then (maskAt s 2 5).getLsbD a
        else if i = 3 then (maskAt s 1 3).getLsbD a
        else if i = 2 then (maskAt s 0 1).getLsbD a
        else false := by
  refine ⟨_, by rw [placedDigits, read_placeMask, if_pos ha], ?_⟩
  simp only [bufByte, read_placeMask, read_clearBuf, if_pos ha, Option.getD_some, withBit_getLsbD _ _ _ _ hi,
    digitBitOffset]
  simp

theorem placedDigits_wf (s : State) (h : Memory.wf bufBytes s.buf = true) :
    Memory.wf bufBytes (placedDigits s) = true :=
  placeMask_wf _ _ _ (placeMask_wf _ _ _ (placeMask_wf _ _ _ (placeMask_wf _ _ _ (placeMask_wf _ _ _
    (clearBuf_wf _ h)))))

/-- The Encoder keeps the canonical form of `BUF` (R53: every index is in range). -/
theorem encodeFrame_wf (s : State) (h : Memory.wf bufBytes s.buf = true) :
    Memory.wf bufBytes (encodeFrame s).buf = true := by
  rw [encodeFrame_buf]
  split
  · exact placeBit_wf _ _ _ _ (placedDigits_wf s h) (segDp_lt s.rom)
  · exact placedDigits_wf s h

end Sys2Proof.Machine
end

