-- ==== Sys2Proof/Laws/Step.lean ====
section
/-!
SUPPORT. What latching an edge's input can answer, said once: the latched state and which writes may still land in it.
-/

namespace Sys2Proof.Machine

/-- A latched state is the state with some input on its ports. -/
theorem latchInput_ok (s s₁ : State) (h : latchInput s = .ok s₁) : ∃ i rest, s₁ = latch s i rest := by
  unfold latchInput at h
  split at h
  · cases h
    exact ⟨_, _, rfl⟩
  · split at h <;> cases h
    exact ⟨_, _, rfl⟩

/-- Every write that may still land after latching names an element that exists (R50). -/
theorem latchInput_moves (s s₁ : State) (h : latchInput s = .ok s₁) :
    ∀ w ∈ s₁.port.moves.flatten, missingElement s₁.rom w = none := by
  unfold latchInput at h
  split at h
  · cases h
    intro w hw
    simp only [latch, freeInput, List.mem_flatten, List.mem_map] at hw
    obtain ⟨l, ⟨a, _, rfl⟩, hl⟩ := hw
    simpa using (List.mem_filter.1 hl).2
  · split at h
    · cases h
    · rename_i hx
      cases h
      simpa [firstMissing] using hx

/-- A step that answers a next state has latched an input. -/
theorem step_next_latched (s t : State) (h : step s = .next t) : ∃ s₁, latchInput s = .ok s₁ := by
  cases hx : latchInput s with
  | ok s₁ => exact ⟨s₁, rfl⟩
  | error e => simp [step, hx] at h

end Sys2Proof.Machine
end

