-- ==== Sys2Proof/Tests/Slice0.lean ====
section
/-!
SUPPORT. Tests: well-formedness smoke tests, decoding of words written out from the spec, the spec's vectors (spec/95), and
for each statement with hypotheses a concrete witness that meets them. Expected values come from spec/95 or by hand from the
cited rule.
-/

namespace Sys2Proof.Tests

open Sys2Proof Sys2Proof.Machine

-- One theorem at a time: checked side by side, the kernel evaluations below would hold a thread each.
set_option Elab.async false

/-! ## WellFormed smoke -/

/-- R82 (d): a payload of 64 bits is no record's. -/
theorem test_wf_refuses_length : (Instr.busopQueue 5#3 0x00#8 64#8).wf = false := by decide

/-- R41: bit 7 of the address of a 128-bit record is 0. -/
theorem test_wf_refuses_wide_address : (Instr.busopQueue 5#3 0x80#8 128#8).wf = false := by decide

/-- R74: all eight address bits of a record without payload are its own. -/
theorem test_wf_accepts_config_record : (Instr.busopQueue 4#3 0xAF#8 0#8).wf = true := by decide

/-! ## Decoding words written out bit by bit -/

/-- R70: row 0, 0000. -/
theorem test_decode_initPeripheral : decode .state [0b00000000#8] = .ok .initPeripheral := by decide

/-- R70: row 1, 0001. -/
theorem test_decode_setCfg : decode .state [0b00000001#8] = .ok .setCfgProtocolFormat := by decide

/-- R70: row 2, 0010. -/
theorem test_decode_sysDis : decode .state [0b00000010#8] = .ok .cfgSysDis := by decide

/-- R70: rows 3 to 8, 0011 to 1000. -/
theorem test_decode_commands :
    decode .state [0b00000011#8] = .ok .cfgComOption ∧ decode .state [0b00000100#8] = .ok .cfgMasterMode
      ∧ decode .state [0b00000101#8] = .ok .cfgSysOn ∧ decode .state [0b00000110#8] = .ok .cfgPwmMode
      ∧ decode .state [0b00000111#8] = .ok .cfgBlinkMode ∧ decode .state [0b00001000#8] = .ok .cfgLedOn := by decide

/-- R70: rows 9 to 15, 1001 to 1111. -/
theorem test_decode_last_rows :
    decode .state [0b00001001#8] = .ok .cancelCfgProtocolFormat
      ∧ decode .state [0b00001010#8] = .ok .setWriteProtocolFormat ∧ decode .state [0b00001011#8] = .ok .refresh
      ∧ decode .state [0b00001100#8] = .ok .prepareReinit ∧ decode .state [0b00001101#8] = .ok .waitDriverReady
      ∧ decode .state [0b00001110#8] = .ok .cancelCfgOffMode ∧ decode .state [0b00001111#8] = .ok .offMode := by decide

/-- R71: a STATE code has four bits. -/
theorem test_decode_refuses_wide_state : decode .state [0b00010000#8] = .error .unusedBits := by decide

/-- V-C6: header 100 10101111, the record of C_PWM_DUTY = (4, 0xAF); the same bits are each command's where they stand. -/
theorem test_decode_cfgtx_rows :
    decode (.cfgtx .pwmDuty) [0b10101111#8, 0b00000100#8] = .ok (.cfgtxPwmDuty 4#3 0xAF#8)
      ∧ decode (.cfgtx .sysDis) [0b00000000#8, 0b00000100#8] = .ok (.cfgtxSysDis 4#3 0x00#8)
      ∧ decode (.cfgtx .comOption) [0b00100000#8, 0b00000100#8] = .ok (.cfgtxComOption 4#3 0x20#8)
      ∧ decode (.cfgtx .masterMode) [0b00011000#8, 0b00000100#8] = .ok (.cfgtxMasterMode 4#3 0x18#8)
      ∧ decode (.cfgtx .sysOn) [0b00000001#8, 0b00000100#8] = .ok (.cfgtxSysOn 4#3 0x01#8)
      ∧ decode (.cfgtx .blinkOff) [0b00001000#8, 0b00000100#8] = .ok (.cfgtxBlinkOff 4#3 0x08#8)
      ∧ decode (.cfgtx .ledOn) [0b00000011#8, 0b00000100#8] = .ok (.cfgtxLedOn 4#3 0x03#8) := by decide

/-- R75: command 101, address 0000011. -/
theorem test_decode_wrtx : decode .wrtx [0b10000011#8, 0b00000010#8] = .ok (.wrtx 5#3 3#7) := by decide

/-- R81: operation codes 000 to 101; ATTACH's profile is the bit above the code (notes/assumptions/8.md). -/
theorem test_decode_busop :
    decode .busop [0b00000000#8, 0#8, 0#8] = .ok .busopNone ∧ decode .busop [0b00000001#8, 0#8, 0#8] = .ok .busopBusInit
      ∧ decode .busop [0b00000010#8, 0#8, 0#8] = .ok (.busopAttach .config)
      ∧ decode .busop [0b00001010#8, 0#8, 0#8] = .ok (.busopAttach .refresh)
      ∧ decode .busop [0b00000011#8, 0#8, 0#8] = .ok .busopDetach
      ∧ decode .busop [0b01000100#8, 0b00010000#8, 0b00000000#8] = .ok (.busopQueue 4#3 0x20#8 0#8)
      ∧ decode .busop [0b01010100#8, 0b00000000#8, 0b01000000#8] = .ok (.busopQueue 5#3 0x00#8 128#8)
      ∧ decode .busop [0b00000101#8, 0#8, 0#8] = .ok .busopAwait := by decide

/-- R82 (d), R41: a length of 64, a port driven under AWAIT, and two bytes instead of three are each refused by name. -/
theorem test_decode_busop_refusals :
    decode .busop [0b00000100#8, 0#8, 0b00100000#8] = .error .reservedTxLength
      ∧ decode .busop [0b00001101#8, 0#8, 0#8] = .error .undrivenPort
      ∧ decode .busop [0b00000101#8, 0#8] = .error .wrongLength := by decide

/-- The numbering of spec/opcode_table.json: 3, 4 and 8 bits. -/
theorem test_decode_table_words :
    decodeTableWord 4 11 = some .refresh ∧ decodeTableWord 8 15 = some .offMode ∧ decodeTableWord 3 5 = some .busopAwait
      ∧ decodeTableWord 3 6 = none ∧ decodeTableWord 11 0x4AF = some (.cfgtxSysDis 4#3 0xAF#8)
      ∧ decodeTableWord 10 0x280 = some (.wrtx 5#3 0#7) := by decide

/-! ## Fixtures of spec/95 -/

/-- `SEGTAB` of FIX7. -/
def table7 : List Mask :=
  (List.range 256).map fun c =>
    match c with
    | 0x30 => 0x3F#32
    | 0x31 => 0x06#32
    | 0x32 => 0x5B#32
    | 0x33 => 0x4F#32
    | 0x34 => 0x66#32
    | 0x38 => 0x7F#32
    | _ => 0#32

/-- `SEGTAB` of FIX16. -/
def table16 : List Mask :=
  (List.range 256).map fun c =>
    match c with
    | 0x41 => 0x8001#32
    | 0x42 => 0x0100#32
    | 0x43 => 0xEFFF#32
    | _ => 0#32

/-- FIX7 with FIXCMD; two icons, the first being wifi. -/
def fix7 : Params :=
  { Params.blank with
    segDp := 7, segtab := table7, iconCount := 2, iconWifi := 0
    sysDis := ⟨4, 0x00⟩, comOption := ⟨4, 0x20⟩, masterMode := ⟨4, 0x18⟩, sysOn := ⟨4, 0x01⟩, pwmDuty := ⟨4, 0xAF⟩
    blinkOff := ⟨4, 0x08⟩, ledOn := ⟨4, 0x03⟩, write := ⟨5, 0x00⟩, busCfg := 9 }

theorem fix7_wf : fix7.wf = true := by decide +kernel

theorem fix16_wf : { fix7 with segDp := 12, segtab := table16 }.wf = true := by decide +kernel

def rom7 : Rom := ⟨fix7, fix7_wf⟩

def rom16 : Rom := ⟨{ fix7 with segDp := 12, segtab := table16 }, fix16_wf⟩

/-- A blink state with given `active` and `toggle`. -/
def blink (active toggle : Bool) : BlinkState :=
  ⟨0, 0, 0, active, toggle, false, 0#8⟩

/-- The display input `D="ccccc" dp=bbbbb tg=bbbbb wifi=(a,t)` of spec/95, index 0 leftmost. -/
def display (c : PerDigit Byte) (dp tg : PerDigit Bool) (a t : Bool) : Shared :=
  { digits := ⟨⟨c.left1, dp.left1⟩, ⟨c.left2, dp.left2⟩, ⟨c.middle, dp.middle⟩, ⟨c.right1, dp.right1⟩, ⟨c.right2, dp.right2⟩⟩
    digitBlink := ⟨blink false tg.left1, blink false tg.left2, blink false tg.middle, blink false tg.right1,
      blink false tg.right2⟩
    iconBlink := [(0, blink a t)]
    icons := [] }

def none5 : PerDigit Bool := ⟨false, false, false, false, false⟩

def all5 : PerDigit Bool := ⟨true, true, true, true, true⟩

/-- "01234". -/
def digits01234 : PerDigit Byte := ⟨0x30#8, 0x31#8, 0x32#8, 0x33#8, 0x34#8⟩

/-- The handle a profile was attached under, with a token. -/
def held (p : Profile) : Option Handle := some ⟨p, 77⟩

/-- A machine of FIX7 in a state, with a handle, an edge's input on its ports, and the display of V-E1. -/
def inState (tag : Tag) (h : Option Handle) (input : Input) : State :=
  { State.coldInit rom7 0 with
    current := tag
    previous := .offMode
    next := .cfgComOption
    refreshPeriodStart := 18000#64
    handle := h
    port := input
    shared := display digits01234 none5 all5 false false }

/-- An edge answered ok at a clock value. -/
def okAt (us : Nat) : Input := { Input.allOk with nowUs := BitVec.ofNat 64 us, token := 5 }

/-- An edge answered error at a clock value. -/
def errAt (us : Nat) : Input := { Input.quiet with nowUs := BitVec.ofNat 64 us, token := 5 }

/-- What is seen of the next state an outcome answers, if it answers one. -/
def seen {α : Type} (f : State → α) (o : Host.Outcome State Fault Refusal) : Option α :=
  match o with
  | .next t => some (f t)
  | .fault _ => none
  | .refused _ => none

/-! ## Transport states: V-T1 to V-T13 -/

theorem test_VT1 :
    seen (fun t => (t.current, t.previous, t.trace)) (exec .initPeripheral (inState .initPeripheral none (okAt 0)))
      = some (.setCfgProtocolFormat, .initPeripheral, [.busInitialize 9]) := by decide +kernel

theorem test_VT2 :
    seen (fun t => (t.current, t.previous, t.trace)) (exec .initPeripheral (inState .initPeripheral none (errAt 0)))
      = some (.initPeripheral, .offMode, [.busInitialize 9, .log .busInit .initPeripheral]) := by decide +kernel

theorem test_VT3 :
    seen (fun t => (t.current, t.previous, t.handle))
        (exec .setCfgProtocolFormat (inState .setCfgProtocolFormat none (okAt 0)))
      = some (.cfgSysDis, .setCfgProtocolFormat, some ⟨.config, 5⟩) := by decide +kernel

theorem test_VT4 :
    seen (fun t => (t.current, t.handle, t.trace))
        (exec .setCfgProtocolFormat (inState .setCfgProtocolFormat none (errAt 0)))
      = some (.setCfgProtocolFormat, none, [.attachDevice .config, .log .attach .setCfgProtocolFormat]) := by
  decide +kernel

theorem test_VT5 :
    seen (fun t => (t.current, t.previous, t.handle))
        (exec .cancelCfgProtocolFormat (inState .cancelCfgProtocolFormat (held .config) (okAt 0)))
      = some (.setWriteProtocolFormat, .cancelCfgProtocolFormat, none) := by decide +kernel

theorem test_VT6 :
    seen (fun t => (t.current, t.handle, t.out.logValid, t.out.logClass))
        (exec .cancelCfgProtocolFormat (inState .cancelCfgProtocolFormat (held .config) (errAt 0)))
      = some (.cancelCfgProtocolFormat, held .config, true, 2#2) := by decide +kernel

theorem test_VT7 :
    seen (fun t => (t.current, t.handle, t.refreshPeriodStart))
        (exec .setWriteProtocolFormat (inState .setWriteProtocolFormat none (okAt 20000)))
      = some (.refresh, some ⟨.refresh, 5⟩, 20000#64) := by decide +kernel

theorem test_VT8 :
    seen (fun t => (t.current, t.handle, t.refreshPeriodStart))
        (exec .setWriteProtocolFormat (inState .setWriteProtocolFormat none (errAt 19000)))
      = some (.setWriteProtocolFormat, none, 19000#64) := by decide +kernel

theorem test_VT9 :
    seen (fun t => (t.current, t.previous, t.handle, t.refreshPeriodStart))
        (exec .prepareReinit (inState .prepareReinit (held .refresh) (okAt 5020000)))
      = some (.setCfgProtocolFormat, .prepareReinit, none, 5020000#64) := by decide +kernel

theorem test_VT10 :
    seen (fun t => (t.current, t.next, t.handle, t.refreshPeriodStart))
        (exec .prepareReinit (inState .prepareReinit (held .refresh) (errAt 6001000)))
      = some (.waitDriverReady, .prepareReinit, held .refresh, 6001000#64) := by decide +kernel

theorem test_VT11 :
    seen (fun t => (t.current, t.handle))
        (exec .cancelCfgOffMode (inState .cancelCfgOffMode (held .refresh) (okAt 0)))
      = some (.offMode, none) := by decide +kernel

theorem test_VT12 :
    seen (fun t => (t.current, t.handle, t.trace))
        (exec .cancelCfgOffMode (inState .cancelCfgOffMode none (errAt 0)))
      = some (.cancelCfgOffMode, none, [.detachDevice none, .log .detach .cancelCfgOffMode]) := by decide +kernel

theorem test_VT13 :
    seen (fun t => (t.current, t.previous, t.trace)) (exec .offMode (inState .offMode none (okAt 0)))
      = some (.offMode, .offMode, []) := by decide +kernel

/-! ## Configuration states: V-C1 to V-C9 -/

/-- What a command state is seen to do: where it goes, the record it queued, and what is outstanding. -/
def sent (t : State) : Tag × Tag × List Event × Nat :=
  (t.current, t.next, t.trace, t.outstanding)

/-- The event that hands a record without payload to the transport under the config profile. -/
def command (addr : Byte) : Event :=
  .queueTransaction (held .config) ⟨4#3, addr, 0, []⟩ none

theorem test_VC1 :
    seen sent (exec .cfgSysDis (inState .cfgSysDis (held .config) (okAt 0)))
      = some (.waitDriverReady, .cfgComOption, [command 0x00#8], 1) := by decide +kernel

theorem test_VC2 :
    seen sent
        (exec .cfgSysDis
          { inState .cfgSysDis (held .config) (okAt 0) with startupInit := false, next := .prepareReinit })
      = some (.cfgComOption, .prepareReinit, [], 0) := by decide +kernel

theorem test_VC3 :
    seen sent (exec .cfgComOption (inState .cfgComOption (held .config) (okAt 0)))
      = some (.waitDriverReady, .cfgMasterMode, [command 0x20#8], 1) := by decide +kernel

/-- V-C9: a queue answered error leaves nothing outstanding and takes the same step. -/
theorem test_VC9 :
    seen sent (exec .cfgComOption (inState .cfgComOption (held .config) (errAt 0)))
      = some (.waitDriverReady, .cfgMasterMode, [command 0x20#8], 0) := by decide +kernel

theorem test_VC4 :
    seen sent (exec .cfgMasterMode (inState .cfgMasterMode (held .config) (okAt 0)))
      = some (.waitDriverReady, .cfgSysOn, [command 0x18#8], 1) := by decide +kernel

theorem test_VC5 :
    seen sent (exec .cfgSysOn (inState .cfgSysOn (held .config) (okAt 0)))
      = some (.waitDriverReady, .cfgPwmMode, [command 0x01#8], 1) := by decide +kernel

theorem test_VC6 :
    seen sent (exec .cfgPwmMode (inState .cfgPwmMode (held .config) (okAt 0)))
      = some (.waitDriverReady, .cfgBlinkMode, [command 0xAF#8], 1) := by decide +kernel

theorem test_VC7 :
    seen sent (exec .cfgBlinkMode (inState .cfgBlinkMode (held .config) (okAt 0)))
      = some (.waitDriverReady, .cfgLedOn, [command 0x08#8], 1) := by decide +kernel

theorem test_VC8 :
    seen sent (exec .cfgLedOn (inState .cfgLedOn (held .config) (okAt 0)))
      = some (.waitDriverReady, .cancelCfgProtocolFormat, [command 0x03#8], 1) := by decide +kernel

/-! ## REFRESH and WAIT_DRIVER_READY: V-R1, V-R3, V-R9, V-R11 -/

/-- F0 of spec/95: the frame of V-E1. -/
def frame0 : List Byte :=
  [0x34#8, 0x7C#8, 0x6C#8, 0x34#8, 0x14#8, 0x44#8, 0x70#8, 0x00#8, 0#8, 0#8, 0#8, 0#8, 0#8, 0#8, 0#8, 0#8]

theorem test_VR1 :
    seen (fun t => (t.current, t.next, t.startupInit, t.outstanding, t.trace))
        (exec .refresh (inState .refresh (held .refresh) (okAt 19000)))
      = some (.waitDriverReady, .refresh, false, 1,
          [.nowMicros 19000#64, .queueTransaction (held .refresh) ⟨5#3, 0x00#8, 128, frame0⟩ none]) := by
  decide +kernel

/-- V-R3: exactly 5 000 000 µs elapsed. -/
theorem test_VR3 :
    seen (fun t => (t.current, t.startupInit, t.trace, t.buf))
        (exec .refresh (inState .refresh (held .refresh) (okAt 5018000)))
      = some (.prepareReinit, false, [.nowMicros 5018000#64], []) := by decide +kernel

/-- V-R9. -/
theorem test_VR9 :
    seen (fun t => (t.current, t.previous, t.next, t.outstanding))
        (exec .waitDriverReady { inState .waitDriverReady (held .config) (okAt 0) with outstanding := 1 })
      = some (.cfgComOption, .waitDriverReady, .cfgComOption, 0) := by decide +kernel

/-- V-R11, the second of two edges on which AwaitResult does not return: one call was issued. -/
theorem test_VR11 :
    seen (fun t => (t.current, t.held, t.outstanding, t.trace))
        (exec .waitDriverReady
          { inState .waitDriverReady (held .config) (errAt 0) with
            outstanding := 1, held := true, trace := [.awaitResult (held .config)] })
      = some (.waitDriverReady, true, 1, [.awaitResult (held .config)]) := by decide +kernel

/-! ## The watchdog's boundaries: V-R2, V-R5 to V-R7 -/

/-- V-R2 (4 999 999 µs), V-R5 (the clock went back 1000), V-R6 and V-R7 (the counter wrapped). -/
theorem test_watchdog_boundaries :
    timedOut (inState .refresh none (okAt 5017999)) = false ∧ timedOut (inState .refresh none (okAt 17000)) = true
      ∧ timedOut { inState .refresh none (okAt 4998999) with refreshPeriodStart := BitVec.ofNat 64 (2 ^ 64 - 1000) } = false
      ∧ timedOut { inState .refresh none (okAt 4999000) with refreshPeriodStart := BitVec.ofNat 64 (2 ^ 64 - 1000) } = true := by
  decide +kernel

/-! ## The Encoder: V-E3, V-E7, V-E14, V-F1, a write between two reads -/

/-- The first n bytes of the frame of a display under some constants. -/
def frameOf (rom : Rom) (n : Nat) (sh : Shared) (moves : List (List EnvWrite)) : List Byte :=
  (payloadOf (encodeFrame
    { inState .refresh none { okAt 0 with moves := moves } with rom := rom, shared := sh }).buf).take n

theorem test_VE3 :
    frameOf rom7 8 (display digits01234 none5 all5 true true) []
      = [0x34#8, 0x7C#8, 0x6C#8, 0x34#8, 0x14#8, 0x44#8, 0x70#8, 0x04#8] := by decide +kernel

theorem test_VE7 :
    frameOf rom7 8 (display digits01234 { none5 with left1 := true } { all5 with left1 := false } false false) []
      = [0x30#8, 0x78#8, 0x68#8, 0x30#8, 0x10#8, 0x40#8, 0x70#8, 0x04#8] := by decide +kernel

theorem test_VE14 :
    frameOf rom7 8 (display digits01234 { none5 with middle := true } { all5 with middle := false } false false) []
      = [0x24#8, 0x6C#8, 0x6C#8, 0x24#8, 0x04#8, 0x44#8, 0x60#8, 0x00#8] := by decide +kernel

theorem test_VF1 :
    frameOf rom16 16 (display ⟨0x41#8, 0x42#8, 0x43#8, 0x20#8, 0x20#8⟩ none5 all5 false false) []
      = [0x14#8, 0x10#8, 0x10#8, 0x10#8, 0x10#8, 0x10#8, 0x10#8, 0x10#8, 0x18#8, 0x10#8, 0x10#8, 0x10#8, 0x00#8, 0x10#8,
          0x10#8, 0x14#8] := by decide +kernel

/-- R59: the application overwrites DIGIT[0] and DIGIT[4] with '8' and ' ' after DIGIT[0] was read: the frame mixes the old
'0' with the new blank. By hand: V-E1 without bit 6. -/
theorem test_mixed_frame :
    frameOf rom7 8 (display digits01234 none5 all5 false false)
        [[], [.digit 0 ⟨0x38#8, false⟩, .digit 4 ⟨0x20#8, false⟩]]
      = [0x34#8, 0x3C#8, 0x2C#8, 0x34#8, 0x14#8, 0x04#8, 0x30#8, 0x00#8] := by decide +kernel

/-! ## Refused configurations: V-X1 to V-X4 -/

/-- A configuration is refused as ill formed. -/
def refusesConfiguration (p : Params) : Bool :=
  match powerUp p with
  | .next _ => false
  | .fault _ => false
  | .refused r => decide (r = .illFormedConfiguration)

theorem test_VX1 : refusesConfiguration { fix7 with segtab := table7.set 0x41 0x00010000#32 } = true := by decide +kernel

theorem test_VX2 : refusesConfiguration { fix7 with segtab := table7.set 0x41 0x80#32 } = true := by decide +kernel

theorem test_VX3 : refusesConfiguration { fix7 with segtab := table7.take 128 } = true := by decide +kernel

theorem test_VX4 : refusesConfiguration { fix7 with segDp := 16 } = true := by decide +kernel

/-! ## Rows of the table that are no state -/

/-- V-C3's record, queued by its own row; the tag stays. -/
theorem test_row_cfgtx :
    seen sent (exec (.cfgtxComOption 4#3 0x20#8) (inState .cfgComOption (held .config) (okAt 0)))
      = some (.cfgComOption, .cfgComOption, [command 0x20#8], 1) := by decide +kernel

/-- R75: the payload is `BUF`, byte 0 first; `tx_data[7:0]` = `BUF[0]` (R41). -/
theorem test_row_wrtx :
    seen (fun t => (t.out.txData.setWidth 16, t.out.txLen, t.out.txCmd))
        (exec (.wrtx 5#3 0#7)
          { inState .refresh (held .refresh) (okAt 0) with
            buf := (List.range 16).map fun k => (k, BitVec.ofNat 8 (4 * k + 4)) })
      = some (0x0804#16, 128#8, 5#3) := by decide +kernel

theorem test_row_attach :
    seen (fun t => (t.handle, t.out.opCode, t.out.opProfile))
        (exec (.busopAttach .refresh) (inState .setWriteProtocolFormat none (okAt 0)))
      = some (some ⟨.refresh, 5⟩, 2#3, 1#1) := by decide +kernel

theorem test_row_await :
    seen (fun t => (t.outstanding, t.current))
        (exec .busopAwait { inState .waitDriverReady (held .config) (okAt 0) with outstanding := 1 })
      = some (0, .waitDriverReady) := by decide +kernel

/-! ## The ports of R41 on an edge without a tick -/

/-- R41: after a failed INIT_PERIPHERAL was logged, an edge with `tick_en` = 0 logs nothing; after one that succeeded,
`state_dbg` is the new `current` (1). -/
theorem test_ports_without_tick :
    seen (fun t => (t.out.logValid, t.out.stateDbg, t.out.opCode))
        (step
          { inState .initPeripheral none (okAt 0) with
            out := failedPorts 1#3 0#1 0#2 .initPeripheral, scenario := [{ okAt 0 with tickEn := false }] })
        = some (false, 0#4, 0#3)
      ∧ seen (fun t => (t.out.logValid, t.out.stateDbg, t.out.opCode))
        (step
          { inState .setCfgProtocolFormat none (okAt 0) with
            out := barePorts 1#3 0#1 .initPeripheral, scenario := [{ okAt 0 with tickEn := false }] })
        = some (false, 1#4, 0#3) := by decide +kernel

/-! ## A placed word runs in the very next step -/

/-- From the state after reset, whatever the free values are: the placed tag is evaluated by the very next step, ok. -/
theorem test_placed_tags :
    seen (fun t => t.current) (step (State.reset.withFetchWord 8 0)) = some .setCfgProtocolFormat
      ∧ seen (fun t => t.current) (step (State.reset.withFetchWord 4 3)) = some .waitDriverReady
      ∧ seen (fun t => (t.current, t.out.opCode)) (step (State.reset.withFetchWord 3 3))
        = some (.setWriteProtocolFormat, 3#3) := by decide +kernel

/-! ## Witnesses: concrete states that meet the hypotheses of the statements -/

/-- An outcome is a next state. -/
def answers (o : Host.Outcome State Fault Refusal) : Bool :=
  match o with
  | .next _ => true
  | .fault _ => false
  | .refused _ => false

theorem next_of_answers (o : Host.Outcome State Fault Refusal) (h : answers o = true) : ∃ t, o = .next t := by
  cases o with
  | next t => exact ⟨t, rfl⟩
  | fault f => cases h
  | refused r => cases h

/-- A property of the next state gives a next state with it. -/
theorem next_with {P : State → Bool} (o : Host.Outcome State Fault Refusal) (h : seen P o = some true) :
    ∃ t, o = .next t ∧ P t = true := by
  cases o with
  | next t => exact ⟨t, rfl, Option.some.inj h⟩
  | fault f => cases h
  | refused r => cases h

/-- PowerUpRefusesIllFormed, the side that is accepted: R142 (a), (c), (d), U12. -/
theorem witness_PowerUp_accepts :
    fix7.segDp < 16 ∧ fix7.segtab.length = 256
      ∧ (∀ m ∈ fix7.segtab, m.toNat < 2 ^ 16 ∧ m.getLsbD fix7.segDp = false)
      ∧ fix7.iconWifi < fix7.iconCount ∧ fix7.write.cmd < 8 ∧ fix7.write.addr < 128 ∧ 0 < fix7.tickYield
      ∧ ∀ c ∈ [fix7.sysDis, fix7.comOption, fix7.masterMode, fix7.sysOn, fix7.pwmDuty, fix7.blinkOff, fix7.ledOn],
          c.cmd < 8 ∧ c.addr < 256 := by
  refine ⟨by decide +kernel, by decide +kernel, ?_, by decide +kernel, by decide +kernel, by decide +kernel,
    by decide +kernel, by decide +kernel⟩
  have h : (fix7.segtab.all fun m => decide (m.toNat < 2 ^ 16) && !m.getLsbD fix7.segDp) = true := by decide +kernel
  simpa using h

/-- PowerUpRefusesIllFormed, the side that is refused: a write address of eight bits (U12). -/
theorem witness_PowerUp_refuses : ¬ { fix7 with write := ⟨5, 128⟩ }.write.addr < 128 := by decide

/-- DecodeOfEncode and EncodeOfDecode at the one form whose well-formedness is no triviality. -/
theorem witness_DecodeEncode :
    (Instr.busopQueue 5#3 0x7F#8 128#8).wf = true
      ∧ decode .busop (bytesOf 3 (joinPorts 4 0 5 0x7F 128)) = .ok (.busopQueue 5#3 0x7F#8 128#8) := by decide

/-- ReservedOpCodesRejected: both codes, also with the other ports driven. -/
theorem witness_ReservedOpCodes :
    6 ≤ (0x06#8).toNat % 8 ∧ 6 ≤ (0xFF#8).toNat % 8 ∧ decode .busop [0xFF#8, 0x12#8, 0x34#8] = .error .reservedOpCode := by
  decide

/-- One enabled edge answered ok and then one in reset, as a scenario. -/
def fedBy (inputs : List Input) (s : State) : State :=
  { s with scenario := inputs }

/-- The latched state of a machine whose scenario begins with an input. -/
def latched (i : Input) (s : State) : State :=
  latch (fedBy [i] s) i []

theorem witness_latched (i : Input) (s : State) (h : i.moves = []) : latchInput (fedBy [i] s) = .ok (latched i s) := by
  simp [latchInput, fedBy, latched, firstMissing, h]

/-- StepRunsDecodedInstruction, ScenarioSuppliesInput. -/
theorem witness_StepRuns :
    let s := fedBy [okAt 19000] (inState .refresh (held .refresh) (okAt 0))
    latchInput s = .ok (latched (okAt 19000) s) ∧ (latched (okAt 19000) s).port.rst = false
      ∧ (latched (okAt 19000) s).port.tickEn = true
      ∧ decode .state (fetchWord (latched (okAt 19000) s)) = .ok .refresh
      ∧ s.scenario = okAt 19000 :: [] ∧ (firstMissing s.rom (okAt 19000).moves).isNone = true :=
  ⟨witness_latched _ _ rfl, rfl, rfl, rfl, rfl, rfl⟩

/-- ResetEdgeAppliesInit. -/
theorem witness_ResetEdge :
    let s := inState .refresh (held .refresh) (okAt 0)
    latchInput (fedBy [{ okAt 0 with rst := true }] s) = .ok (latched { okAt 0 with rst := true } s)
      ∧ (latched { okAt 0 with rst := true } s).port.rst = true :=
  ⟨witness_latched _ _ rfl, rfl⟩

/-- DisabledEdgeEvaluatesNothing, with no AwaitResult pending and with one. -/
theorem witness_DisabledEdge :
    ∀ b, let s := { inState .waitDriverReady (held .refresh) (okAt 0) with held := b }
      s.held = b
      ∧ latchInput (fedBy [{ okAt 0 with tickEn := false }] s) = .ok (latched { okAt 0 with tickEn := false } s)
      ∧ (latched { okAt 0 with tickEn := false } s).port.rst = false
      ∧ (latched { okAt 0 with tickEn := false } s).port.tickEn = false :=
  fun _ => ⟨rfl, witness_latched _ _ rfl, rfl, rfl⟩

/-- StepStopsOnlyOnMissingElement at the boundary of both index ranges: FIX7 has two icons and one bitmap byte. -/
theorem witness_MissingElement :
    missingElement rom7 (.iconBlink 1 (blink true true)) = none ∧ missingElement rom7 (.icons 0 0#8) = none
      ∧ missingElement rom7 (.iconBlink 2 (blink true true)) = some (.iconBlink, 2)
      ∧ missingElement rom7 (.icons 1 0#8) = some (.icons, 1) := by decide +kernel

/-- The statements about every instruction that answers a next state: one that queues, one that logs, one that does nothing. -/
theorem witness_AnyInstruction :
    (∃ t, exec .cfgLedOn (inState .cfgLedOn (held .config) (okAt 0)) = .next t)
      ∧ (∃ t, exec .prepareReinit (inState .prepareReinit (held .refresh) (errAt 0)) = .next t)
      ∧ ∃ t, exec .offMode (inState .offMode none (okAt 0)) = .next t :=
  ⟨⟨_, rfl⟩, ⟨_, rfl⟩, ⟨_, rfl⟩⟩

/-- OneBusOperationPerTick: the three ticks without an operation. -/
theorem witness_NoBusOperation :
    { inState .cfgSysDis (held .config) (okAt 0) with startupInit := false }.startupInit = false
      ∧ 5000000 ≤ ((inState .refresh none (okAt 5018000)).port.nowUs
          - (inState .refresh none (okAt 5018000)).refreshPeriodStart).toNat := by decide +kernel

/-- TransitionRelation: `exec` of the instruction of the present tag. -/
theorem witness_Transition :
    ∃ t, exec (inState .waitDriverReady (held .config) (okAt 0)).current.instr
      (inState .waitDriverReady (held .config) (okAt 0)) = .next t := ⟨_, rfl⟩

/-- The tick statements of the transport states: each tag, with either answer. -/
theorem witness_TransportTicks :
    (inState .initPeripheral none (okAt 0)).current = .initPeripheral
      ∧ (inState .setCfgProtocolFormat none (okAt 0)).current = .setCfgProtocolFormat
      ∧ (inState .cancelCfgProtocolFormat none (okAt 0)).current = .cancelCfgProtocolFormat
      ∧ (inState .setWriteProtocolFormat none (okAt 0)).current = .setWriteProtocolFormat
      ∧ (inState .prepareReinit none (okAt 0)).current = .prepareReinit
      ∧ (inState .cancelCfgOffMode none (okAt 0)).current = .cancelCfgOffMode
      ∧ (inState .offMode none (okAt 0)).current = .offMode
      ∧ (∀ tag h, (inState tag h (okAt 0)).port.rspOk = true ∧ (inState tag h (errAt 0)).port.rspOk = false) :=
  ⟨rfl, rfl, rfl, rfl, rfl, rfl, rfl, fun _ _ => ⟨rfl, rfl⟩⟩

/-- The tick statements of the command states, with either value of `startupInit`. -/
theorem witness_CommandTicks :
    (inState .cfgSysDis none (okAt 0)).current = .cfgSysDis ∧ (inState .cfgSysDis none (okAt 0)).startupInit = true
      ∧ { inState .cfgSysDis none (okAt 0) with startupInit := false }.startupInit = false
      ∧ (inState .cfgComOption none (okAt 0)).current = .cfgComOption
      ∧ (inState .cfgMasterMode none (okAt 0)).current = .cfgMasterMode
      ∧ (inState .cfgSysOn none (okAt 0)).current = .cfgSysOn ∧ (inState .cfgPwmMode none (okAt 0)).current = .cfgPwmMode
      ∧ (inState .cfgBlinkMode none (okAt 0)).current = .cfgBlinkMode
      ∧ (inState .cfgLedOn none (okAt 0)).current = .cfgLedOn := ⟨rfl, rfl, rfl, rfl, rfl, rfl, rfl, rfl, rfl⟩

/-- OffModeAbsorbs: three edges, one of them not enabled. -/
theorem witness_OffModeAbsorbs :
    let edges := [okAt 0, { okAt 0 with tickEn := false }, errAt 0]
    (fedBy edges (inState .offMode none (okAt 0))).current = .offMode
      ∧ (fedBy edges (inState .offMode none (okAt 0))).scenario = edges
      ∧ ∀ i ∈ edges, plainEdge rom7 i = true := by
  refine ⟨rfl, rfl, ?_⟩
  decide +kernel

/-- UnboundedWaitHolds: edges on which AwaitResult does not return, past the watchdog's window. -/
theorem witness_UnboundedWait :
    let edges := [errAt 0, errAt 9000000]
    (fedBy edges (inState .waitDriverReady (held .config) (errAt 0))).current = .waitDriverReady
      ∧ (fedBy edges (inState .waitDriverReady (held .config) (errAt 0))).scenario = edges
      ∧ ∀ i ∈ edges, plainEdge rom7 i = true ∧ i.rspValid = false := by
  refine ⟨rfl, rfl, ?_⟩
  decide +kernel

/-- ColdBootOrder: the state after reset, fed eighteen edges answered ok. -/
theorem witness_ColdBoot :
    let edges := List.replicate 18 (okAt 1000)
    let s := fedBy edges (State.coldInit rom7 0)
    s.current = .initPeripheral ∧ s.startupInit = true ∧ s.held = false ∧ s.trace = [] ∧ s.scenario = edges
      ∧ edges.length = 18 ∧ ∀ i ∈ edges, okEdge s.rom i = true := by
  refine ⟨rfl, rfl, rfl, rfl, rfl, rfl, ?_⟩
  decide +kernel

/-- WatchdogDecides and the two REFRESH ticks: both sides of the boundary, and a clock ahead of and behind the start; the
last is behind by more than 2^64 − 5 000 000. -/
theorem witness_Watchdog :
    let at' := fun us => inState .refresh (held .refresh) (okAt us)
    (at' 5018000).current = .refresh
      ∧ 5000000 ≤ ((at' 5018000).port.nowUs - (at' 5018000).refreshPeriodStart).toNat
      ∧ ((at' 5017999).port.nowUs - (at' 5017999).refreshPeriodStart).toNat ≤ 4999999
      ∧ (at' 19000).refreshPeriodStart.toNat ≤ (at' 19000).port.nowUs.toNat
      ∧ (at' 17000).port.nowUs.toNat < (at' 17000).refreshPeriodStart.toNat
      ∧ 2 ^ 64 - 5000000 < (BitVec.ofNat 64 (2 ^ 64 - 1)).toNat - (at' 0).port.nowUs.toNat := by decide +kernel

/-- WaitReturns, with `next` the rendezvous itself and another tag; WaitHolds. -/
theorem witness_Wait :
    (inState .waitDriverReady none (okAt 0)).current = .waitDriverReady
      ∧ (inState .waitDriverReady none (okAt 0)).port.rspValid = true
      ∧ { inState .waitDriverReady none (okAt 0) with next := .waitDriverReady }.next = .waitDriverReady
      ∧ (inState .waitDriverReady none (errAt 0)).port.rspValid = false := ⟨rfl, rfl, rfl, rfl⟩

/-- AnswersNotExamined: the answer flipped on a machine that queues, and on one whose wait returns. -/
theorem witness_AnswersNotExamined :
    let s := inState .cfgSysOn (held .config) (okAt 0)
    let w := inState .waitDriverReady (held .config) (okAt 0)
    (∃ t, exec .cfgSysOn s = .next t) ∧ (∃ t, exec .cfgSysOn { s with port := { s.port with rspOk := false } } = .next t)
      ∧ (∃ t, exec .waitDriverReady w = .next t)
      ∧ ∃ t, exec .waitDriverReady { w with port := { w.port with rspOk := false } } = .next t :=
  ⟨⟨_, rfl⟩, ⟨_, rfl⟩, ⟨_, rfl⟩, ⟨_, rfl⟩⟩

/-- FrameBits: the last byte, and a byte that is and one that is not `SEG_DP`. -/
theorem witness_FrameBits : 15 < 16 ∧ 7 = rom7.val.segDp ∧ 15 ≠ rom7.val.segDp ∧ (4 : Fin 5) ≠ 0 := by decide +kernel

/-- FrameIsFunctionOfInputs: two machines that differ in `BUF`, `startupInit`, `next` and the clock. -/
theorem witness_FrameIsFunction :
    let s := inState .refresh (held .refresh) (okAt 19000)
    let t := { inState .refresh none (errAt 21000) with buf := [(0, 0xFF#8)], startupInit := false, next := .offMode }
    (s.port.nowUs - s.refreshPeriodStart).toNat < 5000000 ∧ (t.port.nowUs - t.refreshPeriodStart).toNat < 5000000
      ∧ s.rom.val.segtab = t.rom.val.segtab ∧ s.rom.val.segDp = t.rom.val.segDp ∧ frameInput s = frameInput t
      ∧ (∃ s', exec .refresh s = .next s') ∧ ∃ t', exec .refresh t = .next t' := by
  refine ⟨by decide +kernel, by decide +kernel, rfl, rfl, by decide +kernel, ⟨_, rfl⟩, ⟨_, rfl⟩⟩

/-- A machine in REFRESH whose environment writes digit 1 between the first two reads. -/
def raced : State :=
  inState .refresh (held .refresh) { okAt 19000 with moves := [[], [.digit 1 ⟨0x38#8, true⟩]] }

/-- The same with another digit 4 before the tick. -/
def racedOther : State :=
  { raced with shared :=
    { raced.shared with
      digits := setDigit raced.shared.digits 4 ⟨0x38#8, true⟩
      digitBlink := setDigit raced.shared.digitBlink 4 (blink true true) } }

/-- DigitColumnsIndependent: the columns of digits 0 and 3, under a write between two reads, with byte 0 (where segment 0
of '0' and of '3' is lit) read in both frames; and of the second clause the last byte. -/
theorem witness_DigitColumns :
    raced.rom.val.segtab = racedOther.rom.val.segtab ∧ raced.rom.val.segDp = racedOther.rom.val.segDp
      ∧ (∀ d : Fin 5, d ≠ 4 → atDigit (frameInput raced).digit d = atDigit (frameInput racedOther).digit d
          ∧ atDigit (frameInput raced).toggle d = atDigit (frameInput racedOther).toggle d)
      ∧ (frameInput raced).wifi = (frameInput racedOther).wifi :=
  ⟨rfl, rfl, by decide +kernel, by decide +kernel⟩

/-- DigitColumnsIndependent: the bytes read, at both ends of `BUF`; the raced digit 1 is in both frames' byte 0. -/
theorem witness_DigitColumns_reads :
    (Table.read (encodeFrame raced).buf 0).map (fun x => (x.getLsbD 2, x.getLsbD 3, x.getLsbD 5)) = some (true, true, true)
      ∧ (Table.read (encodeFrame racedOther).buf 0).map (fun x => (x.getLsbD 2, x.getLsbD 3, x.getLsbD 5))
        = some (true, true, true)
      ∧ (Table.read (encodeFrame raced).buf 15).isSome = true
      ∧ (Table.read (encodeFrame racedOther).buf 15).isSome = true ∧ 5 ≠ (4 : Fin 5).val + 2 := by
  decide +kernel

/-- StartupFlag: the same tick with the flag at 1 and at 0, and an edge that is no reset after which it is still 1. -/
theorem witness_StartupFlag :
    Instr.cfgSysOn ≠ .cfgSysDis
      ∧ (∃ t, exec .cfgSysOn (inState .cfgSysOn (held .config) (okAt 0)) = .next t)
      ∧ (∃ t, exec .cfgSysOn { inState .cfgSysOn (held .config) (okAt 0) with startupInit := false } = .next t)
      ∧ latchInput (fedBy [okAt 0] (inState .cfgSysOn (held .config) (okAt 0)))
        = .ok (latched (okAt 0) (inState .cfgSysOn (held .config) (okAt 0)))
      ∧ (okAt 0).rst = false
      ∧ ∃ t, step (fedBy [okAt 0] (inState .cfgSysOn (held .config) (okAt 0))) = .next t ∧ t.startupInit = true :=
  ⟨by decide, ⟨_, rfl⟩, ⟨_, rfl⟩, witness_latched _ _ rfl, rfl,
    next_with (P := fun t => t.startupInit) _ (by decide +kernel)⟩

/-- RendezvousLink: a tick that writes `next`, and the wait itself, returned and held. -/
theorem witness_RendezvousLink :
    (∃ t, exec .cfgSysOn (inState .cfgSysOn (held .config) (okAt 0)) = .next t
        ∧ decide (t.next ≠ (inState .cfgSysOn (held .config) (okAt 0)).next) = true)
      ∧ (∃ t, exec .waitDriverReady (inState .waitDriverReady (held .config) (okAt 0)) = .next t)
      ∧ ∃ t, exec .waitDriverReady (inState .waitDriverReady (held .config) (errAt 0)) = .next t :=
  ⟨next_with (P := fun t => decide (t.next ≠ .cfgComOption)) _ (by decide +kernel), ⟨_, rfl⟩, ⟨_, rfl⟩⟩

/-- HandleWriters: a tick that writes the handle. -/
theorem witness_HandleWritten :
    ∃ t, exec .setCfgProtocolFormat (inState .setCfgProtocolFormat none (okAt 0)) = .next t
      ∧ decide (t.handle ≠ (inState .setCfgProtocolFormat none (okAt 0)).handle) = true :=
  next_with (P := fun t => decide (t.handle ≠ none)) _ (by decide +kernel)

/-- BufferAndProfileDiscipline: another instruction, REFRESH past the window and inside it, and an attach (with
witness_SequencerInv's first state). -/
theorem witness_BufferAndProfile :
    ((∃ t, exec .waitDriverReady (inState .waitDriverReady (held .refresh) (okAt 0)) = .next t)
        ∧ Instr.waitDriverReady ≠ .refresh)
      ∧ ((∃ t, exec .refresh (inState .refresh (held .refresh) (okAt 5018000)) = .next t)
        ∧ 5000000 ≤ ((inState .refresh (held .refresh) (okAt 5018000)).port.nowUs
            - (inState .refresh (held .refresh) (okAt 5018000)).refreshPeriodStart).toNat)
      ∧ (∃ t, exec .refresh (inState .refresh (held .refresh) (okAt 5017999)) = .next t
        ∧ decide (Event.queueTransaction (held .refresh) ⟨5#3, 0x00#8, 128, frame0⟩ none
            ∈ newEvents (inState .refresh (held .refresh) (okAt 5017999)) t) = true)
      ∧ ((inState .refresh (held .refresh) (okAt 5017999)).port.nowUs
          - (inState .refresh (held .refresh) (okAt 5017999)).refreshPeriodStart).toNat < 5000000
      ∧ ∃ t, exec .setCfgProtocolFormat (inState .setCfgProtocolFormat none (okAt 0)) = .next t
        ∧ decide (Event.attachDevice .config ∈ newEvents (inState .setCfgProtocolFormat none (okAt 0)) t) = true :=
  ⟨⟨⟨_, rfl⟩, by decide⟩, ⟨⟨_, rfl⟩, by decide +kernel⟩,
    next_with (P := fun t =>
      decide (Event.queueTransaction (held .refresh) ⟨5#3, 0x00#8, 128, frame0⟩ none
        ∈ newEvents (inState .refresh (held .refresh) (okAt 5017999)) t)) _ (by decide +kernel),
    by decide +kernel,
    next_with (P := fun t =>
      decide (Event.attachDevice .config ∈ newEvents (inState .setCfgProtocolFormat none (okAt 0)) t)) _
      (by decide +kernel)⟩

/-- LogOnlyOnTransportFailure: a tick that logs, for each class. -/
theorem witness_Logged :
    (∃ t, exec .initPeripheral (inState .initPeripheral none (errAt 0)) = .next t
        ∧ decide (Event.log .busInit .initPeripheral ∈ newEvents (inState .initPeripheral none (errAt 0)) t) = true)
      ∧ (∃ t, exec .setWriteProtocolFormat (inState .setWriteProtocolFormat none (errAt 0)) = .next t
        ∧ decide (Event.log .attach .setWriteProtocolFormat
            ∈ newEvents (inState .setWriteProtocolFormat none (errAt 0)) t) = true)
      ∧ ∃ t, exec .prepareReinit (inState .prepareReinit (held .refresh) (errAt 0)) = .next t
        ∧ decide (Event.log .detach .prepareReinit
            ∈ newEvents (inState .prepareReinit (held .refresh) (errAt 0)) t) = true :=
  ⟨next_with (P := fun t =>
      decide (Event.log .busInit .initPeripheral ∈ newEvents (inState .initPeripheral none (errAt 0)) t)) _
      (by decide +kernel),
    next_with (P := fun t =>
      decide (Event.log .attach .setWriteProtocolFormat
        ∈ newEvents (inState .setWriteProtocolFormat none (errAt 0)) t)) _ (by decide +kernel),
    next_with (P := fun t =>
      decide (Event.log .detach .prepareReinit
        ∈ newEvents (inState .prepareReinit (held .refresh) (errAt 0)) t)) _ (by decide +kernel)⟩

/-- The sequencer's invariant in a state of each kind: before the attach, in a config phase, in the refresh loop, and in the
rendezvous with a transaction in flight. -/
theorem witness_SequencerInv :
    SequencerInv (inState .setCfgProtocolFormat none (okAt 0)) ∧ SequencerInv (inState .cfgPwmMode (held .config) (okAt 0))
      ∧ SequencerInv (inState .refresh (held .refresh) (okAt 19000))
      ∧ SequencerInv { inState .prepareReinit (held .refresh) (errAt 0) with startupInit := false }
      ∧ SequencerInv { inState .waitDriverReady (held .config) (okAt 0) with outstanding := 1 } := by
  refine ⟨?_, ?_, ?_, ?_, ?_⟩ <;>
    simp [SequencerInv, ProfileInv, RendezvousInv, OffPathInv, StartupInv, inState, State.coldInit, phase, phaseProfile,
      attachedProfile, rendezvousTarget, held]

/-- StepKeepsSequencerInv, StepKeepsMemoryInv, StepKeepsFrameInv: a machine that meets all three and steps, sending a frame. -/
theorem witness_StepKeeps :
    let s := fedBy [okAt 19000] { inState .refresh (held .refresh) (okAt 0) with buf := [(0, 0x7C#8)] }
    SequencerInv s ∧ MemoryInv s ∧ FrameInv s ∧ ∃ t, step s = .next t := by
  refine ⟨?_, ?_, ⟨?_, fun e he => by cases he⟩, next_of_answers _ (by decide +kernel)⟩
  · simp [SequencerInv, ProfileInv, RendezvousInv, OffPathInv, StartupInv, fedBy, inState, State.coldInit, phase,
      phaseProfile, attachedProfile, held]
  · exact ⟨by decide +kernel, by decide +kernel, by decide +kernel⟩
  · intro a b hb
    simp only [fedBy, Table.read] at hb
    split at hb
    · cases hb
      decide
    · cases hb

/-- OperationsInOrder and RecordsUnderTheirProfile: ticks that attach, detach, and queue each kind of record. -/
theorem witness_Operations :
    (∃ t, exec .setCfgProtocolFormat (inState .setCfgProtocolFormat none (okAt 0)) = .next t
        ∧ decide (Event.attachDevice .config ∈ newEvents (inState .setCfgProtocolFormat none (okAt 0)) t) = true)
      ∧ (∃ t, exec .cancelCfgProtocolFormat (inState .cancelCfgProtocolFormat (held .config) (okAt 0)) = .next t
        ∧ decide (Event.detachDevice (held .config)
            ∈ newEvents (inState .cancelCfgProtocolFormat (held .config) (okAt 0)) t) = true)
      ∧ (∃ t, exec .cfgPwmMode (inState .cfgPwmMode (held .config) (okAt 0)) = .next t
        ∧ decide (command 0xAF#8 ∈ newEvents (inState .cfgPwmMode (held .config) (okAt 0)) t) = true)
      ∧ ∃ t, exec .refresh (inState .refresh (held .refresh) (okAt 19000)) = .next t
        ∧ decide (Event.queueTransaction (held .refresh) ⟨5#3, 0x00#8, 128, frame0⟩ none
            ∈ newEvents (inState .refresh (held .refresh) (okAt 19000)) t) = true :=
  ⟨next_with (P := fun t =>
      decide (Event.attachDevice .config ∈ newEvents (inState .setCfgProtocolFormat none (okAt 0)) t)) _
      (by decide +kernel),
    next_with (P := fun t =>
      decide (Event.detachDevice (held .config)
        ∈ newEvents (inState .cancelCfgProtocolFormat (held .config) (okAt 0)) t)) _ (by decide +kernel),
    next_with (P := fun t =>
      decide (command 0xAF#8 ∈ newEvents (inState .cfgPwmMode (held .config) (okAt 0)) t)) _ (by decide +kernel),
    next_with (P := fun t =>
      decide (Event.queueTransaction (held .refresh) ⟨5#3, 0x00#8, 128, frame0⟩ none
        ∈ newEvents (inState .refresh (held .refresh) (okAt 19000)) t)) _ (by decide +kernel)⟩

/-- BufStableInFlight: a transaction in flight, and an edge that is no reset. -/
theorem witness_BufStable :
    let s := { inState .waitDriverReady (held .config) (okAt 0) with outstanding := 1 }
    SequencerInv (fedBy [okAt 0] s) ∧ (fedBy [okAt 0] s).outstanding = 1
      ∧ latchInput (fedBy [okAt 0] s) = .ok (latched (okAt 0) s) ∧ (latched (okAt 0) s).port.rst = false
      ∧ ∃ t, step (fedBy [okAt 0] s) = .next t := by
  refine ⟨?_, rfl, witness_latched _ _ rfl, rfl, next_of_answers _ (by decide +kernel)⟩
  simp [SequencerInv, ProfileInv, RendezvousInv, OffPathInv, StartupInv, fedBy, inState, State.coldInit, phase,
    phaseProfile, attachedProfile, rendezvousTarget, held]

/-- EnvironmentWritesOneElement: each kind of write. -/
theorem witness_EnvironmentWrites :
    (EnvWrite.digit 4 ⟨0x38#8, true⟩ = .digit 4 ⟨0x38#8, true⟩)
      ∧ (EnvWrite.digitBlink 0 (blink true false) = .digitBlink 0 (blink true false))
      ∧ (EnvWrite.iconBlink 1 (blink true false) = .iconBlink 1 (blink true false))
      ∧ EnvWrite.icons 0 0xFF#8 = .icons 0 0xFF#8 := ⟨rfl, rfl, rfl, rfl⟩

/-- CanonicalMemoryIsExtensional: a memory in canonical form at both ends of `BUF`; one out of order is not. -/
theorem witness_CanonicalMemory :
    Memory.wf bufBytes [(0, 0x34#8), (15, 0x00#8)] = true ∧ Memory.wf bufBytes [(15, 0x00#8), (0, 0x34#8)] = false
      ∧ Memory.wf bufBytes [(16, 0x00#8)] = false ∧ ∀ a, Table.read [(0, 0x34#8)] a = Table.read [(0, 0x34#8)] a :=
  ⟨by decide, by decide, by decide, fun _ => rfl⟩

end Sys2Proof.Tests
end

section
/-!
The scope of the model: what makes a configuration acceptable, what an edge takes as its input, and that an edge whose
input is latched always answers a next state.
-/

namespace Sys2Proof

/-! ## Accepted configurations -/

theorem CommandConst.fitsConfig_iff (c : CommandConst) : c.fitsConfig = true ↔ c.cmd < 8 ∧ c.addr < 256 := by
  simp [CommandConst.fitsConfig]

theorem CommandConst.fitsRefresh_iff (c : CommandConst) : c.fitsRefresh = true ↔ c.cmd < 8 ∧ c.addr < 128 := by
  simp [CommandConst.fitsRefresh]

theorem segtabOk_iff (segDp : Nat) (segtab : List Mask) :
    segtabOk segDp segtab = true
      ↔ segtab.length = 256 ∧ ∀ m ∈ segtab, m.toNat < 2 ^ 16 ∧ m.getLsbD segDp = false := by
  simp [segtabOk]

/-- The checks of `Params.wf` as R142 (a), (c), (d), U12 and R8's ranges state them. -/
theorem Params.wf_iff (p : Params) :
    p.wf = true
      ↔ p.segDp < 16 ∧ p.segtab.length = 256
        ∧ (∀ m ∈ p.segtab, m.toNat < 2 ^ 16 ∧ m.getLsbD p.segDp = false)
        ∧ p.iconWifi < p.iconCount ∧ p.write.cmd < 8 ∧ p.write.addr < 128 ∧ 0 < p.tickYield
        ∧ ∀ c ∈ [p.sysDis, p.comOption, p.masterMode, p.sysOn, p.pwmDuty, p.blinkOff, p.ledOn],
            c.cmd < 8 ∧ c.addr < 256 := by
  simp only [Params.wf, Bool.and_eq_true, decide_eq_true_eq, segtabOk_iff, CommandConst.fitsConfig_iff,
    CommandConst.fitsRefresh_iff, List.forall_mem_cons, List.not_mem_nil, false_implies, implies_true]
  tauto

/-! ## The fetched word -/

theorem decode_encodeState (t : Tag) : decode .state (encodeState t) = .ok t.instr := by
  cases t <;> rfl

end Sys2Proof

namespace Sys2Proof.Machine

theorem powerUp_of_wf (p : Params) (h : p.wf = true) : powerUp p = .next (State.coldInit ⟨p, h⟩ 0) :=
  dif_pos h

theorem powerUp_of_not_wf (p : Params) (h : ¬ p.wf = true) : powerUp p = .refused .illFormedConfiguration :=
  dif_neg h

/-! ## The input of an edge -/

theorem firstMissing_eq_none_iff (rom : Rom) (moves : List (List EnvWrite)) :
    firstMissing rom moves = none ↔ ∀ w ∈ moves.flatten, missingElement rom w = none :=
  List.findSome?_eq_none_iff

theorem latchInput_nil (s : State) (hs : s.scenario = []) :
    latchInput s = .ok (latch s (freeInput s.rom s.tick) []) := by
  simp [latchInput, hs]

theorem latchInput_cons_existing (s : State) (i : Input) (rest : List Input) (hs : s.scenario = i :: rest)
    (hi : firstMissing s.rom i.moves = none) : latchInput s = .ok (latch s i rest) := by
  simp [latchInput, hs, hi]

theorem latchInput_cons_missing (s : State) (i : Input) (rest : List Input) (space : Space) (k : Nat)
    (hs : s.scenario = i :: rest) (hi : firstMissing s.rom i.moves = some (space, k)) :
    latchInput s = .error (.noSuchElement space k) := by
  simp [latchInput, hs, hi]

/-! ## A latched edge answers a next state -/

/-- Each arm of the dispatch is `.next` of a state; none faults or refuses (R11). -/
theorem exec_answers_next (i : Instr) (s : State) : ∃ t, exec i s = .next t := by
  cases i <;> exact ⟨_, rfl⟩

/-- The word in `current` always decodes (R82 (a)), so a tick is its tag's instruction. -/
theorem evaluate_eq_exec (s : State) : evaluate s = exec s.current.instr s := by
  simp [evaluate, fetchWord, decode_encodeState]

theorem edge_answers_next (s : State) : ∃ t, edge s = .next t := by
  unfold edge
  split
  · exact ⟨_, rfl⟩
  · split
    · rw [evaluate_eq_exec]
      exact exec_answers_next _ _
    · exact ⟨_, rfl⟩

theorem step_of_latched (s s₁ : State) (h : latchInput s = .ok s₁) : ∃ t, step s = .next t := by
  obtain ⟨t, ht⟩ := edge_answers_next s₁
  exact ⟨settle t, by simp [step, h, ht]⟩

theorem step_of_not_latched (s : State) (f : Fault) (h : latchInput s = .error f) : step s = .fault f := by
  simp [step, h]

/-! ## The obligations -/

/-- Settles O13: a step stops only while latching, and latching fails exactly on a missing element. -/
theorem stepStopsOnlyOnMissingElement : Obligations.StepStopsOnlyOnMissingElement := by
  intro s
  refine ⟨fun hall => ?_, fun i rest w hs hw hmiss => ?_⟩
  · cases hs : s.scenario with
    | nil => exact step_of_latched _ _ (latchInput_nil s hs)
    | cons i rest =>
      have hi := (firstMissing_eq_none_iff s.rom i.moves).2 (hall i rest hs)
      exact step_of_latched _ _ (latchInput_cons_existing s i rest hs hi)
  · cases hi : firstMissing s.rom i.moves with
    | none => exact absurd ((firstMissing_eq_none_iff s.rom i.moves).1 hi w hw) hmiss
    | some e =>
      obtain ⟨space, k⟩ := e
      exact ⟨space, k, step_of_not_latched _ _ (latchInput_cons_missing s i rest space k hs hi)⟩

/-- Settles O3: `Params.wf` is the condition of the statement, and power-up branches on it. -/
theorem powerUpRefusesIllFormed : Obligations.PowerUpRefusesIllFormed := by
  intro p
  rw [← Params.wf_iff]
  exact ⟨powerUp_of_not_wf p, fun h => ⟨_, powerUp_of_wf p h, rfl, rfl, rfl⟩⟩

/-- Settles O10: latching the scenario's first input is `latch`, which writes the three input fields alone. -/
theorem scenarioSuppliesInput : Obligations.ScenarioSuppliesInput := by
  intro s i rest hs hi
  exact latchInput_cons_existing s i rest hs (Option.isNone_iff_eq_none.1 hi)

/-- Settles O14, by the arms of the dispatch. -/
theorem everyInstructionAnswers : Obligations.EveryInstructionAnswers :=
  exec_answers_next

end Sys2Proof.Machine
end

section
/-!
One tick in three parts: what it prepares (timer, flag, frame), the one bus operation it presents (R101), and how it
ends (control transfer, R102, R103, or a logged failure, R106). Each part says once which registers it writes.
-/

namespace Sys2Proof.Machine

/-! ## The parts of a tick -/

/-- What a tick does before its bus operation: the clock read and timer of R113 and R114, the frame of R130. -/
def prepare (i : Instr) (s : State) : State :=
  match i with
  | .setWriteProtocolFormat | .prepareReinit => startPeriod (readClock s)
  | .refresh =>
    let s := readClock (clearStartup s)
    if timedOut s then s else encodeFrame s
  | _ => s

/-- The bus operation of a tick, from its prepared state (R101). -/
def operation (i : Instr) (s : State) : BusOp :=
  match i with
  | .initPeripheral | .busopBusInit => .busInit
  | .setCfgProtocolFormat => .attach .config
  | .setWriteProtocolFormat => .attach .refresh
  | .busopAttach p => .attach p
  | .cancelCfgProtocolFormat | .prepareReinit | .cancelCfgOffMode | .busopDetach => .detach
  | .cfgSysDis => if s.startupInit then .queue (cfgtx s.rom .sysDis) else .none
  | .cfgComOption => .queue (cfgtx s.rom .comOption)
  | .cfgMasterMode => .queue (cfgtx s.rom .masterMode)
  | .cfgSysOn => .queue (cfgtx s.rom .sysOn)
  | .cfgPwmMode => .queue (cfgtx s.rom .pwmDuty)
  | .cfgBlinkMode => .queue (cfgtx s.rom .blinkOff)
  | .cfgLedOn => .queue (cfgtx s.rom .ledOn)
  | .refresh => if timedOut s then .none else .queue (wrtx s.rom s.buf)
  | .cfgtxSysDis cmd addr | .cfgtxComOption cmd addr | .cfgtxMasterMode cmd addr | .cfgtxSysOn cmd addr
  | .cfgtxPwmDuty cmd addr | .cfgtxBlinkOff cmd addr | .cfgtxLedOn cmd addr => .queue (cfgRecord cmd addr)
  | .wrtx cmd addr => .queue (writeRecord cmd addr s.buf)
  | .busopQueue cmd addr len => .queue (portRecord cmd addr len s.buf)
  | .waitDriverReady | .busopAwait => .await
  | .offMode | .busopNone => .none

/-- A bus operation with the effect of its answer (R104). -/
def perform (o : BusOp) (s : State) : State :=
  match o with
  | .none => present .none s
  | .busInit => busInitialize s
  | .attach p => attachDevice p s
  | .detach => detachDevice s
  | .queue tx => queueTransaction tx s
  | .await => awaitResult s

/-- How a tick ends, its operation performed: the table of R107. The rows that are no state end as they are. -/
def finish (i : Instr) (s : State) : State :=
  match i with
  | .initPeripheral => if answeredOk s then goto .setCfgProtocolFormat s else raiseFailure .busInit s
  | .setCfgProtocolFormat => if answeredOk s then goto .cfgSysDis s else raiseFailure .attachConfig s
  | .cfgSysDis => if s.startupInit then waitThen .cfgComOption s else goto .cfgComOption s
  | .cfgComOption => waitThen .cfgMasterMode s
  | .cfgMasterMode => waitThen .cfgSysOn s
  | .cfgSysOn => waitThen .cfgPwmMode s
  | .cfgPwmMode => waitThen .cfgBlinkMode s
  | .cfgBlinkMode => waitThen .cfgLedOn s
  | .cfgLedOn => waitThen .cancelCfgProtocolFormat s
  | .cancelCfgProtocolFormat => if answeredOk s then goto .setWriteProtocolFormat s else raiseFailure .detachConfig s
  | .setWriteProtocolFormat => if answeredOk s then goto .refresh s else raiseFailure .attachRefresh s
  | .refresh => if timedOut s then goto .prepareReinit s else waitThen .refresh s
  | .prepareReinit =>
    if answeredOk s then goto .setCfgProtocolFormat s else waitThen .prepareReinit (raiseFailure .detachRefresh s)
  | .waitDriverReady => if s.port.rspValid then goto s.next s else s
  | .cancelCfgOffMode => if answeredOk s then goto .offMode s else raiseFailure .detachOff s
  | _ => s

/-- The state after a tick: prepared, its one operation performed, ended. -/
def afterTick (i : Instr) (s : State) : State :=
  finish i (perform (operation i (prepare i s)) (prepare i s))

/-! ## What each part writes -/

@[simp] theorem perform_rom (o : BusOp) (s : State) : (perform o s).rom = s.rom := by cases o <;> simp [perform]
@[simp] theorem perform_current (o : BusOp) (s : State) : (perform o s).current = s.current := by
  cases o <;> simp [perform]
@[simp] theorem perform_next (o : BusOp) (s : State) : (perform o s).next = s.next := by cases o <;> simp [perform]
@[simp] theorem perform_startupInit (o : BusOp) (s : State) : (perform o s).startupInit = s.startupInit := by
  cases o <;> simp [perform]
@[simp] theorem perform_refreshPeriodStart (o : BusOp) (s : State) :
    (perform o s).refreshPeriodStart = s.refreshPeriodStart := by cases o <;> simp [perform]
@[simp] theorem perform_buf (o : BusOp) (s : State) : (perform o s).buf = s.buf := by cases o <;> simp [perform]
@[simp] theorem perform_shared (o : BusOp) (s : State) : (perform o s).shared = s.shared := by
  cases o <;> simp [perform]
@[simp] theorem perform_port (o : BusOp) (s : State) : (perform o s).port = s.port := by cases o <;> simp [perform]
@[simp] theorem perform_scenario (o : BusOp) (s : State) : (perform o s).scenario = s.scenario := by
  cases o <;> simp [perform]
@[simp] theorem perform_tick (o : BusOp) (s : State) : (perform o s).tick = s.tick := by cases o <;> simp [perform]

@[simp] theorem answeredOk_perform (o : BusOp) (s : State) : answeredOk (perform o s) = answeredOk s := by
  simp [answeredOk]
@[simp] theorem elapsed_perform (o : BusOp) (s : State) : elapsed (perform o s) = elapsed s := by simp [elapsed, now]
@[simp] theorem timedOut_perform (o : BusOp) (s : State) : timedOut (perform o s) = timedOut s :=
  congrArg (fun e => decide (refreshPeriodUs ≤ e)) (elapsed_perform o s)
@[simp] theorem timedOut_readClock (s : State) : timedOut (readClock s) = timedOut s := rfl
@[simp] theorem timedOut_clearStartup (s : State) : timedOut (clearStartup s) = timedOut s := rfl
@[simp] theorem timedOut_encodeFrame (s : State) : timedOut (encodeFrame s) = timedOut s :=
  congrArg (fun e => decide (refreshPeriodUs ≤ e)) (show elapsed (encodeFrame s) = elapsed s by simp [elapsed])

/-- How a tick can end: as it is, with a transfer (R102, R103), with a logged failure (R106), or with both (R114). -/
inductive Ending (s : State) : State → Prop where
  | stay : Ending s s
  | goto (S : Tag) : Ending s (goto S s)
  | waitThen (S : Tag) : Ending s (waitThen S s)
  | fail (c : FailureCause) : Ending s (raiseFailure c s)
  | failThenWait (c : FailureCause) (S : Tag) : Ending s (waitThen S (raiseFailure c s))

theorem ending_finish (i : Instr) (s : State) : Ending s (finish i s) := by
  unfold finish
  repeat' split
  all_goals constructor

namespace Ending

variable {s t : State}

theorem rom (h : Ending s t) : t.rom = s.rom := by cases h <;> simp
theorem startupInit (h : Ending s t) : t.startupInit = s.startupInit := by cases h <;> simp
theorem refreshPeriodStart (h : Ending s t) : t.refreshPeriodStart = s.refreshPeriodStart := by cases h <;> simp
theorem handle (h : Ending s t) : t.handle = s.handle := by cases h <;> simp
theorem buf (h : Ending s t) : t.buf = s.buf := by cases h <;> simp
theorem shared (h : Ending s t) : t.shared = s.shared := by cases h <;> simp
theorem port (h : Ending s t) : t.port = s.port := by cases h <;> simp
theorem scenario (h : Ending s t) : t.scenario = s.scenario := by cases h <;> simp
theorem tick (h : Ending s t) : t.tick = s.tick := by cases h <;> simp

/-- An ending adds at most a logged failure to the trace. -/
theorem trace (h : Ending s t) :
    ∃ ls, t.trace = s.trace ++ ls ∧ (ls = [] ∨ ∃ c, ls = [.log c s.current]) := by
  cases h
  case stay => exact ⟨[], by simp⟩
  case goto => exact ⟨[], by simp⟩
  case waitThen => exact ⟨[], by simp⟩
  case fail c => exact ⟨[.log c.cls s.current], by simp⟩
  case failThenWait c _ => exact ⟨[.log c.cls s.current], by simp⟩

end Ending

/-! ## Every instruction is these three parts -/

/-- Neither the flag nor the clock read is an input of the Encoder (R134). -/
@[simp] theorem encodeFrame_readClock_clearStartup_buf (s : State) :
    (encodeFrame (readClock (clearStartup s))).buf = (encodeFrame s).buf := rfl

theorem exec_eq_afterTick (i : Instr) (s : State) : exec i s = .next (afterTick i s) := by
  cases i
  case initPeripheral => simp [exec, execInitPeripheral, afterTick, prepare, operation, perform, finish]
  case setCfgProtocolFormat => simp [exec, execSetCfgProtocolFormat, afterTick, prepare, operation, perform, finish]
  case cfgSysDis =>
    cases h : s.startupInit <;>
      simp [exec, execCfgSysDis, sendCommand, afterTick, prepare, operation, perform, finish, h]
  case cancelCfgProtocolFormat =>
    simp [exec, execCancelCfgProtocolFormat, afterTick, prepare, operation, perform, finish]
  case setWriteProtocolFormat =>
    simp [exec, execSetWriteProtocolFormat, afterTick, prepare, operation, perform, finish]
  case prepareReinit => simp [exec, execPrepareReinit, afterTick, prepare, operation, perform, finish]
  case refresh =>
    cases h : timedOut s <;>
      simp [exec, execRefresh, sendFrame, afterTick, prepare, operation, finish, h] <;>
      rfl
  case waitDriverReady => simp [exec, execWaitDriverReady, afterTick, prepare, operation, perform, finish]
  case cancelCfgOffMode => simp [exec, execCancelCfgOffMode, afterTick, prepare, operation, perform, finish]
  all_goals rfl

theorem eq_afterTick_of_exec {i : Instr} {s t : State} (h : exec i s = .next t) : t = afterTick i s := by
  rw [exec_eq_afterTick] at h
  exact (Host.Outcome.next.inj h).symm

end Sys2Proof.Machine
end

section
/-!
What a tick and an edge leave in each register: the writers of the flag, the timer, the handle, `BUF` and the shared
state, the events a tick adds, and the three things an edge can be.
-/

namespace Sys2Proof.Machine

/-! ## What preparing writes -/

theorem prepare_refresh_timedOut (s : State) (h : timedOut s = true) :
    prepare .refresh s = readClock (clearStartup s) := by
  simp [prepare, h]

theorem prepare_refresh_inWindow (s : State) (h : timedOut s = false) :
    prepare .refresh s = encodeFrame (readClock (clearStartup s)) := by
  simp [prepare, h]

theorem afterTick_refresh_timedOut (s : State) (h : timedOut s = true) :
    afterTick .refresh s = goto .prepareReinit (perform .none (readClock (clearStartup s))) := by
  simp [afterTick, prepare_refresh_timedOut s h, operation, finish, h]

theorem afterTick_refresh_inWindow (s : State) (h : timedOut s = false) :
    afterTick .refresh s
      = waitThen .refresh
          (perform (.queue (wrtx s.rom (encodeFrame s).buf)) (encodeFrame (readClock (clearStartup s)))) := by
  simp [afterTick, prepare_refresh_inWindow s h, operation, finish, h]

/-- How a tick can be prepared: not at all, by loading the timer, or, in REFRESH alone, by clearing the flag and
encoding a frame inside the window. -/
inductive Preparation (s : State) : Instr → State → Prop where
  | none {i : Instr} (hw : i ≠ .setWriteProtocolFormat) (hr : i ≠ .prepareReinit) (hf : i ≠ .refresh) :
      Preparation s i s
  | timer {i : Instr} (hi : i = .setWriteProtocolFormat ∨ i = .prepareReinit) :
      Preparation s i (startPeriod (readClock s))
  | timeout (h : timedOut s = true) : Preparation s .refresh (readClock (clearStartup s))
  | frame (h : timedOut s = false) : Preparation s .refresh (encodeFrame (readClock (clearStartup s)))

theorem preparation_prepare (i : Instr) (s : State) : Preparation s i (prepare i s) := by
  by_cases hw : i = .setWriteProtocolFormat
  · subst hw; exact .timer (.inl rfl)
  by_cases hr : i = .prepareReinit
  · subst hr; exact .timer (.inr rfl)
  by_cases hf : i = .refresh
  · subst hf
    cases h : timedOut s with
    | true => rw [prepare_refresh_timedOut s h]; exact .timeout h
    | false => rw [prepare_refresh_inWindow s h]; exact .frame h
  have hp : prepare i s = s := by unfold prepare; split <;> simp_all
  rw [hp]
  exact .none hw hr hf

namespace Preparation

variable {i : Instr} {s p : State}

theorem rom (h : Preparation s i p) : p.rom = s.rom := by cases h <;> simp
theorem current (h : Preparation s i p) : p.current = s.current := by cases h <;> simp
theorem handle (h : Preparation s i p) : p.handle = s.handle := by cases h <;> simp
theorem held (h : Preparation s i p) : p.held = s.held := by cases h <;> simp
theorem scenario (h : Preparation s i p) : p.scenario = s.scenario := by cases h <;> simp
theorem tick (h : Preparation s i p) : p.tick = s.tick := by cases h <;> simp

theorem answers (h : Preparation s i p) : p.port.rspOk = s.port.rspOk ∧ p.port.token = s.port.token := by
  cases h <;> simp [encodeFrame_port]

theorem startupInit (h : Preparation s i p) : p.startupInit = if i = .refresh then false else s.startupInit := by
  cases h
  case none hf => simp [hf]
  case timer hi => rcases hi with rfl | rfl <;> simp
  case timeout => simp
  case frame => simp

theorem refreshPeriodStart (h : Preparation s i p) :
    p.refreshPeriodStart
      = if i = .setWriteProtocolFormat ∨ i = .prepareReinit then s.port.nowUs else s.refreshPeriodStart := by
  cases h
  case none hw hr _ => simp [hw, hr]
  case timer hi => simp [hi, now]
  case timeout => simp
  case frame => simp

/-- `BUF` is written by a frame alone (R38). -/
theorem buf_of_no_frame (h : Preparation s i p) (hi : i ≠ .refresh ∨ timedOut s = true) : p.buf = s.buf := by
  cases h
  case none => rfl
  case timer => simp
  case timeout => simp
  case frame hw => simp [hw] at hi

theorem shared_of_ne_refresh (h : Preparation s i p) (hi : i ≠ .refresh) : p.shared = s.shared ∧ p.port = s.port := by
  cases h
  case none => exact ⟨rfl, rfl⟩
  case timer => simp
  case timeout => exact absurd rfl hi
  case frame => exact absurd rfl hi

/-- The environment's writes land in order, whether at the reads of a frame or at the end of the edge (R59). -/
theorem writes_landed (h : Preparation s i p) :
    applyPhases p.shared p.port.moves = applyPhases s.shared s.port.moves := by
  cases h
  case none => rfl
  case timer => simp
  case timeout => simp
  case frame =>
    simp only [encodeFrame_shared, encodeFrame_port]
    exact applyPhases_take_then_rest s.shared s.port.moves 11

/-- Preparing adds at most a clock read to the trace. -/
theorem trace (h : Preparation s i p) :
    ∃ cs, p.trace = s.trace ++ cs ∧ (cs = [] ∨ cs = [.nowMicros (now s)]) := by
  cases h
  case none => exact ⟨[], by simp⟩
  case timer => exact ⟨[.nowMicros (now s)], by simp⟩
  case timeout => exact ⟨[.nowMicros (now s)], by simp⟩
  case frame => exact ⟨[.nowMicros (now s)], by simp⟩

end Preparation

/-! ## What the operation of an instruction is -/

theorem operation_eq_attach_iff (i : Instr) (s : State) (p : Profile) :
    operation i s = .attach p
      ↔ i = .setCfgProtocolFormat ∧ .config = p ∨ i = .setWriteProtocolFormat ∧ .refresh = p
        ∨ i = .busopAttach p := by
  cases i
  case cfgSysDis => simp only [operation]; split <;> simp
  case refresh => simp only [operation]; split <;> simp
  all_goals simp [operation]

theorem operation_eq_detach_iff (i : Instr) (s : State) :
    operation i s = .detach
      ↔ i = .cancelCfgProtocolFormat ∨ i = .prepareReinit ∨ i = .cancelCfgOffMode ∨ i = .busopDetach := by
  cases i
  case cfgSysDis => simp only [operation]; split <;> simp
  case refresh => simp only [operation]; split <;> simp
  all_goals simp [operation]

/-- Only an attach or a detach answered ok writes the handle (R104, D10). -/
theorem perform_handle_changed (o : BusOp) (s : State) (h : (perform o s).handle ≠ s.handle) :
    s.port.rspOk = true
      ∧ ((∃ p, o = .attach p ∧ (perform o s).handle = some ⟨p, s.port.token⟩)
        ∨ o = .detach ∧ (perform o s).handle = none) := by
  cases o
  case attach p => cases hok : s.port.rspOk <;> simp_all [perform, answeredOk]
  case detach => cases hok : s.port.rspOk <;> simp_all [perform, answeredOk]
  all_goals simp [perform] at h

/-! ## What a tick adds to the trace -/

/-- The events of an operation: an AwaitResult that is pending was issued when the hold began (R131). -/
theorem perform_trace (o : BusOp) (s : State) :
    (perform o s).trace = s.trace ++ if o = .await ∧ s.held = true then [] else o.events s := by
  cases o
  case await => cases h : s.held <;> simp [perform, BusOp.events, h]
  all_goals simp [perform, BusOp.events]

/-- A tick adds at most a clock read, the events of its one operation, and at most a logged failure, in this order. -/
theorem afterTick_trace (i : Instr) (s : State) :
    ∃ cs ls, (afterTick i s).trace
        = s.trace ++ (cs ++ (if operation i (prepare i s) = .await ∧ s.held = true then []
            else (operation i (prepare i s)).events (prepare i s)) ++ ls)
      ∧ (cs = [] ∨ cs = [.nowMicros (now s)]) ∧ (ls = [] ∨ ∃ c, ls = [.log c s.current]) := by
  have hp := preparation_prepare i s
  obtain ⟨cs, hcs, hclock⟩ := hp.trace
  obtain ⟨ls, hls, hlog⟩ := (ending_finish i (perform (operation i (prepare i s)) (prepare i s))).trace
  refine ⟨cs, ls, ?_, hclock, by simpa [hp.current] using hlog⟩
  rw [afterTick, hls, perform_trace, hcs, hp.held]
  simp

theorem newEvents_of_append {s t : State} {es : List Event} (h : t.trace = s.trace ++ es) : newEvents s t = es := by
  simp [newEvents, h]

/-- Every event of a tick is a clock read, an event of the tick's one bus operation, or a logged failure. -/
theorem mem_newEvents_afterTick {i : Instr} {s : State} {e : Event} (he : e ∈ newEvents s (afterTick i s)) :
    e = .nowMicros (now s) ∨ e ∈ (operation i (prepare i s)).events (prepare i s)
      ∨ ∃ c, e = .log c s.current := by
  obtain ⟨cs, ls, htr, hclock, hlog⟩ := afterTick_trace i s
  rw [newEvents_of_append htr, List.mem_append, List.mem_append] at he
  rcases he with (he | he) | he
  · rcases hclock with rfl | rfl <;> simp_all
  · split at he
    · simp at he
    · exact .inr (.inl he)
  · rcases hlog with rfl | ⟨c, rfl⟩ <;> simp_all

theorem attachDevice_mem_events {o : BusOp} {s : State} {p : Profile} :
    Event.attachDevice p ∈ o.events s ↔ o = .attach p := by
  cases o <;> simp [BusOp.events, eq_comm]

theorem detachDevice_mem_events {o : BusOp} {s : State} {h : Option Handle} :
    Event.detachDevice h ∈ o.events s ↔ o = .detach ∧ h = s.handle := by
  cases o <;> simp [BusOp.events]

theorem queueTransaction_mem_events {o : BusOp} {s : State} {h : Option Handle} {tx : Tx} {q : Option Nat} :
    Event.queueTransaction h tx q ∈ o.events s ↔ o = .queue tx ∧ h = s.handle ∧ q = s.rom.val.queueTimeout := by
  cases o <;> simp [BusOp.events]
  tauto

/-- A tick that attaches presents ATTACH; likewise for the other two operations that carry an argument. -/
theorem operation_of_attach_event {i : Instr} {s : State} {p : Profile}
    (h : Event.attachDevice p ∈ newEvents s (afterTick i s)) : operation i (prepare i s) = .attach p := by
  simpa [attachDevice_mem_events] using mem_newEvents_afterTick h

theorem operation_of_detach_event {i : Instr} {s : State} {h : Option Handle}
    (he : Event.detachDevice h ∈ newEvents s (afterTick i s)) :
    operation i (prepare i s) = .detach ∧ h = s.handle := by
  simpa [detachDevice_mem_events, (preparation_prepare i s).handle] using mem_newEvents_afterTick he

theorem operation_of_queue_event {i : Instr} {s : State} {h : Option Handle} {tx : Tx} {q : Option Nat}
    (he : Event.queueTransaction h tx q ∈ newEvents s (afterTick i s)) :
    operation i (prepare i s) = .queue tx ∧ h = s.handle := by
  have hq := mem_newEvents_afterTick he
  simp only [reduceCtorEq, queueTransaction_mem_events, (preparation_prepare i s).handle, exists_false, or_false,
    false_or] at hq
  exact ⟨hq.1, hq.2.1⟩

/-! ## What a tick leaves in each register -/

theorem afterTick_rom (i : Instr) (s : State) : (afterTick i s).rom = s.rom := by
  simp [afterTick, (ending_finish i _).rom, (preparation_prepare i s).rom]

theorem afterTick_tick (i : Instr) (s : State) : (afterTick i s).tick = s.tick := by
  simp [afterTick, (ending_finish i _).tick, (preparation_prepare i s).tick]

theorem afterTick_scenario (i : Instr) (s : State) : (afterTick i s).scenario = s.scenario := by
  simp [afterTick, (ending_finish i _).scenario, (preparation_prepare i s).scenario]

theorem afterTick_shared (i : Instr) (s : State) : (afterTick i s).shared = (prepare i s).shared := by
  simp [afterTick, (ending_finish i _).shared]

theorem afterTick_port (i : Instr) (s : State) : (afterTick i s).port = (prepare i s).port := by
  simp [afterTick, (ending_finish i _).port]

theorem afterTick_buf (i : Instr) (s : State) : (afterTick i s).buf = (prepare i s).buf := by
  simp [afterTick, (ending_finish i _).buf]

theorem afterTick_handle (i : Instr) (s : State) :
    (afterTick i s).handle = (perform (operation i (prepare i s)) (prepare i s)).handle :=
  (ending_finish i _).handle

theorem afterTick_startupInit (i : Instr) (s : State) :
    (afterTick i s).startupInit = if i = .refresh then false else s.startupInit := by
  simp [afterTick, (ending_finish i _).startupInit, (preparation_prepare i s).startupInit]

theorem afterTick_refreshPeriodStart (i : Instr) (s : State) :
    (afterTick i s).refreshPeriodStart
      = if i = .setWriteProtocolFormat ∨ i = .prepareReinit then s.port.nowUs else s.refreshPeriodStart := by
  simp [afterTick, (ending_finish i _).refreshPeriodStart, (preparation_prepare i s).refreshPeriodStart]

/-! ## What an edge can be -/

theorem step_of_reset {s s₁ : State} (hl : latchInput s = .ok s₁) (hr : s₁.port.rst = true) :
    step s = .next (settle (resetEdge s₁)) := by
  simp [step, hl, edge, hr]

theorem step_of_tick {s s₁ : State} (hl : latchInput s = .ok s₁) (hr : s₁.port.rst = false)
    (he : s₁.port.tickEn = true) : step s = .next (settle (afterTick s₁.current.instr s₁)) := by
  simp [step, hl, edge, hr, he, evaluate_eq_exec, exec_eq_afterTick]

theorem step_of_idle {s s₁ : State} (hl : latchInput s = .ok s₁) (hr : s₁.port.rst = false)
    (he : s₁.port.tickEn = false) : step s = .next (settle (idleEdge s₁)) := by
  simp [step, hl, edge, hr, he]

/-- An edge is a reset, a tick of the tag in `current`, or idle; then the rest of its writes land (R41, R59). -/
theorem step_cases {s s₁ t : State} (hl : latchInput s = .ok s₁) (h : step s = .next t) :
    (s₁.port.rst = true ∧ t = settle (resetEdge s₁))
      ∨ (s₁.port.rst = false ∧ (t = settle (afterTick s₁.current.instr s₁) ∨ t = settle (idleEdge s₁))) := by
  cases hr : s₁.port.rst with
  | true => exact .inl ⟨rfl, Host.Outcome.next.inj (h.symm.trans (step_of_reset hl hr))⟩
  | false =>
    refine .inr ⟨rfl, ?_⟩
    cases he : s₁.port.tickEn with
    | true => exact .inl (Host.Outcome.next.inj (h.symm.trans (step_of_tick hl hr he)))
    | false => exact .inr (Host.Outcome.next.inj (h.symm.trans (step_of_idle hl hr he)))

end Sys2Proof.Machine
end

section
/-!
Registers: who writes the flag, the timer and the handle, that the worker writes no shared element, and what a reset
edge and an edge without a tick leave.
-/

namespace Sys2Proof.Machine

/-! ## The flag makes no difference but to CFG_SYS_DIS (R24) -/

/-- The state with another value of `startupInit`. -/
def withFlag (b : Bool) (s : State) : State :=
  { s with startupInit := b }

@[simp] theorem withFlag_port (b : Bool) (s : State) : (withFlag b s).port = s.port := rfl
@[simp] theorem withFlag_next (b : Bool) (s : State) : (withFlag b s).next = s.next := rfl
@[simp] theorem answeredOk_withFlag (b : Bool) (s : State) : answeredOk (withFlag b s) = answeredOk s := rfl
@[simp] theorem timedOut_withFlag (b : Bool) (s : State) : timedOut (withFlag b s) = timedOut s := rfl

@[simp] theorem goto_withFlag (S : Tag) (b : Bool) (s : State) : goto S (withFlag b s) = withFlag b (goto S s) := by
  unfold goto
  rw [apply_ite (withFlag b)]
  rfl

@[simp] theorem waitThen_withFlag (S : Tag) (b : Bool) (s : State) :
    waitThen S (withFlag b s) = withFlag b (waitThen S s) :=
  goto_withFlag .waitDriverReady b { s with next := S }

@[simp] theorem raiseFailure_withFlag (c : FailureCause) (b : Bool) (s : State) :
    raiseFailure c (withFlag b s) = withFlag b (raiseFailure c s) := rfl

theorem prepare_withFlag (i : Instr) (b : Bool) (s : State) :
    ∃ c, prepare i (withFlag b s) = withFlag c (prepare i s) := by
  cases i
  case refresh =>
    refine ⟨false, ?_⟩
    simp only [prepare, apply_ite (withFlag false)]
    rfl
  all_goals exact ⟨b, rfl⟩

theorem operation_withFlag (i : Instr) (hi : i ≠ .cfgSysDis) (b : Bool) (s : State) :
    operation i (withFlag b s) = operation i s := by
  cases i
  case cfgSysDis => exact absurd rfl hi
  all_goals rfl

theorem perform_withFlag (o : BusOp) (b : Bool) (s : State) : perform o (withFlag b s) = withFlag b (perform o s) := by
  cases o
  case none => rfl
  case busInit => simp only [perform, busInitialize, apply_ite (withFlag b)]; rfl
  case attach => simp only [perform, attachDevice, apply_ite (withFlag b)]; rfl
  case detach => simp only [perform, detachDevice, apply_ite (withFlag b)]; rfl
  case queue => simp only [perform, queueTransaction, apply_ite (withFlag b)]; rfl
  case await => simp only [perform, awaitResult, apply_ite (withFlag b)]; rfl

theorem finish_withFlag (i : Instr) (hi : i ≠ .cfgSysDis) (b : Bool) (s : State) :
    finish i (withFlag b s) = withFlag b (finish i s) := by
  cases i
  case cfgSysDis => exact absurd rfl hi
  all_goals simp [finish, apply_ite (withFlag b)]

theorem afterTick_withFlag (i : Instr) (hi : i ≠ .cfgSysDis) (b : Bool) (s : State) :
    ∃ c, afterTick i (withFlag b s) = withFlag c (afterTick i s) := by
  obtain ⟨c, hc⟩ := prepare_withFlag i b s
  exact ⟨c, by rw [afterTick, afterTick, hc, operation_withFlag i hi, perform_withFlag, finish_withFlag i hi]⟩

/-! ## The obligations -/

/-- Settles O47: preparing REFRESH alone writes the flag, only CFG_SYS_DIS looks at it, and an idle edge keeps it. -/
theorem startupFlag : Obligations.StartupFlag := by
  refine ⟨rfl, ?_, ?_, ?_⟩
  · intro i s t h
    rw [eq_afterTick_of_exec h, afterTick_startupInit]
  · intro i s t t' b hi h h'
    obtain ⟨c, hc⟩ := afterTick_withFlag i hi b s
    rw [eq_afterTick_of_exec h, eq_afterTick_of_exec h']
    change afterTick i (withFlag b s) = withFlag (afterTick i (withFlag b s)).startupInit (afterTick i s)
    rw [hc]
    rfl
  · intro s s₁ t hl hr h ht
    obtain ⟨j, rest, rfl⟩ := latchInput_ok s s₁ hl
    rcases step_cases hl h with ⟨hrst, -⟩ | ⟨-, rfl | rfl⟩
    · rw [hr] at hrst
      cases hrst
    · simp only [settle_startupInit, afterTick_startupInit] at ht
      split at ht
      · cases ht
      · exact ht
    · exact ht

/-- Settles O48: the timer is loaded while a tick is prepared, before its operation is answered. -/
theorem periodStartWriters : Obligations.PeriodStartWriters := by
  intro i s t h
  rw [eq_afterTick_of_exec h, afterTick_refreshPeriodStart]

/-- Settles O49: performing the tick's operation alone writes the handle, and the operation names the instruction. -/
theorem handleWriters : Obligations.HandleWriters := by
  intro i s t h hne
  have hp := preparation_prepare i s
  rw [eq_afterTick_of_exec h, afterTick_handle] at hne ⊢
  rw [← hp.handle] at hne
  obtain ⟨hok, hcase⟩ := perform_handle_changed _ _ hne
  rw [hp.answers.1] at hok
  rw [hp.answers.2] at hcase
  refine ⟨hok, ?_⟩
  rcases hcase with ⟨p, ho, hh⟩ | ⟨ho, hh⟩
  · rw [hh]
    rw [operation_eq_attach_iff] at ho
    cases p <;> simp_all
  · rw [operation_eq_detach_iff] at ho
    exact .inr (.inr ⟨ho, hh⟩)

/-- Settles O51: only the Encoder's reads let the environment's writes land inside a tick. -/
theorem workerNeverWritesShared : Obligations.WorkerNeverWritesShared := by
  intro i s t h
  have hp := preparation_prepare i s
  rw [eq_afterTick_of_exec h]
  refine ⟨⟨afterTick_rom i s, afterTick_tick i s, afterTick_scenario i s⟩, ?_, fun hi => ?_⟩
  · rw [afterTick_shared, afterTick_port, hp.writes_landed]
  · obtain ⟨hsh, hpo⟩ := hp.shared_of_ne_refresh hi
    exact ⟨(afterTick_shared i s).trans hsh, (afterTick_port i s).trans hpo⟩

/-- Settles O1: the fields of the init entry, and the five seeded characters. -/
theorem resetRegisters : Obligations.ResetRegisters := by
  refine ⟨rfl, rfl, rfl, rfl, rfl, rfl, fun d => ?_⟩
  fin_cases d <;> rfl

/-- Settles O11: a reset edge is the init entry on the constants, and then the edge's writes land. -/
theorem resetEdgeAppliesInit : Obligations.ResetEdgeAppliesInit := by
  intro s s₁ hl hr
  obtain ⟨j, rest, rfl⟩ := latchInput_ok s s₁ hl
  exact ⟨_, step_of_reset hl hr, rfl, rfl, rfl, rfl, rfl, rfl, rfl, rfl, rfl⟩

/-- The ports of an edge without a tick, written out (R41). -/
theorem idlePorts_eq_barePorts (s : State) :
    idlePorts s = barePorts (if s.held then 5#3 else 0#3) 0#1 s.current := by
  unfold idlePorts
  cases s.held <;> rfl

/-- Settles O12: an edge with neither reset nor tick changes the ports alone, and then the edge's writes land. -/
theorem disabledEdgeEvaluatesNothing : Obligations.DisabledEdgeEvaluatesNothing := by
  intro s s₁ hl hr he
  obtain ⟨j, rest, rfl⟩ := latchInput_ok s s₁ hl
  rw [step_of_idle hl hr he, ← idlePorts_eq_barePorts]
  rfl

end Sys2Proof.Machine
end

section
/-!
The sequencer's invariant (R38, R39): how it is established for a state outside the rendezvous and for one inside it,
and that every tick and every edge keeps it.
-/

namespace Sys2Proof.Machine

/-! ## The invariant, established and used -/

/-- No frame was sent in these events (R39 (vi)). -/
def NoFrame (es : List Event) : Prop :=
  ∀ e ∈ es, Event.isFrame e = false

@[simp] theorem noFrame_append (es fs : List Event) : NoFrame (es ++ fs) ↔ NoFrame es ∧ NoFrame fs := by
  simp only [NoFrame, List.mem_append, or_imp, forall_and]

@[simp] theorem noFrame_singleton (e : Event) : NoFrame [e] ↔ Event.isFrame e = false := by simp [NoFrame]

/-- Outside the rendezvous: the phase's profile is attached, nothing is outstanding, nothing is held. -/
theorem SequencerInv.outside_rendezvous {s : State} (h : SequencerInv s) (hc : s.current ≠ .waitDriverReady) :
    attachedProfile s = phaseProfile s.current ∧ s.outstanding = 0 ∧ s.held = false := by
  obtain ⟨hprof, ⟨-, hout, hheld, -⟩, -, -⟩ := h
  refine ⟨by simpa [ProfileInv, phase, hc] using hprof, hout hc, ?_⟩
  exact Bool.eq_false_iff.2 fun hs => hc (hheld hs)

/-- In the rendezvous: the profile of the tag it goes on to is attached, and that tag is a target of R23. -/
theorem SequencerInv.in_rendezvous {s : State} (h : SequencerInv s) (hc : s.current = .waitDriverReady) :
    attachedProfile s = phaseProfile s.next ∧ s.outstanding ≤ 1 ∧ rendezvousTarget s.next = true := by
  obtain ⟨hprof, ⟨hout, -, -, htarget⟩, -, -⟩ := h
  exact ⟨by simpa [ProfileInv, phase, hc] using hprof, hout, htarget hc⟩

theorem SequencerInv.off_path {s : State} (h : SequencerInv s) : OffPathInv s := h.2.2.1

theorem SequencerInv.startup {s : State} (h : SequencerInv s) : StartupInv s := h.2.2.2

theorem SequencerInv.no_frame {s : State} (h : SequencerInv s) (hf : s.startupInit = true) : NoFrame s.trace :=
  (h.startup hf).1

/-- The invariant speaks of seven registers only. -/
theorem SequencerInv.of_same_registers {s t : State} (h : SequencerInv s) (hcur : t.current = s.current)
    (hnext : t.next = s.next) (hhandle : t.handle = s.handle) (hout : t.outstanding = s.outstanding)
    (hheld : t.held = s.held) (hflag : t.startupInit = s.startupInit) (htrace : NoFrame s.trace → NoFrame t.trace) :
    SequencerInv t := by
  obtain ⟨hprof, hrend, hoff, hstart⟩ := h
  refine ⟨?_, ?_, ?_, fun hf => ?_⟩
  · simpa [ProfileInv, attachedProfile, phase, hcur, hnext, hhandle] using hprof
  · simpa [RendezvousInv, hcur, hnext, hout, hheld] using hrend
  · simpa [OffPathInv, hcur] using hoff
  · obtain ⟨hno, htags⟩ := hstart (hflag ▸ hf)
    exact ⟨htrace hno, by rwa [hcur, hnext]⟩

/-- A transfer to a tag outside the rendezvous, with that phase's profile attached and nothing in flight. -/
theorem sequencerInv_goto {S : Tag} {s : State} (hwait : S ≠ .waitDriverReady)
    (hoff : S ≠ .cancelCfgOffMode ∧ S ≠ .offMode) (hprof : attachedProfile s = phaseProfile S)
    (hout : s.outstanding = 0) (hheld : s.held = false)
    (hstart : s.startupInit = true → NoFrame s.trace ∧ S ≠ .prepareReinit) : SequencerInv (goto S s) := by
  refine ⟨?_, ?_, ?_, ?_⟩
  · simpa [ProfileInv, attachedProfile, phase, hwait] using hprof
  · simp [RendezvousInv, hwait, hout, hheld]
  · simpa [OffPathInv] using hoff
  · simpa [StartupInv, NoFrame, hwait] using hstart

/-- Entering the rendezvous on the way to one of R23's tags, with that tag's profile attached. -/
theorem sequencerInv_waitThen {S : Tag} {s : State} (htarget : rendezvousTarget S = true)
    (hprof : attachedProfile s = phaseProfile S) (hout : s.outstanding ≤ 1)
    (hstart : s.startupInit = true → NoFrame s.trace ∧ S ≠ .refresh ∧ S ≠ .prepareReinit) :
    SequencerInv (waitThen S s) := by
  refine ⟨?_, ?_, ?_, ?_⟩
  · simpa [ProfileInv, attachedProfile, phase] using hprof
  · simp [RendezvousInv, htarget, hout]
  · simp [OffPathInv]
  · simpa [StartupInv, NoFrame] using hstart

theorem sequencerInv_coldInit (rom : Rom) (n : Nat) : SequencerInv (State.coldInit rom n) := by
  simp [SequencerInv, ProfileInv, RendezvousInv, OffPathInv, StartupInv, State.coldInit, phase, phaseProfile,
    attachedProfile]

/-! ## The ticks keep it -/

/-- The three operations that set the transport up (R110 to R115). -/
inductive SetsUp : BusOp → Prop where
  | busInit : SetsUp .busInit
  | attach (p : Profile) : SetsUp (.attach p)
  | detach : SetsUp .detach

theorem SetsUp.perform_outstanding {o : BusOp} (ho : SetsUp o) (s : State) :
    (perform o s).outstanding = s.outstanding := by cases ho <;> simp [perform]

theorem SetsUp.perform_held {o : BusOp} (ho : SetsUp o) (s : State) : (perform o s).held = s.held := by
  cases ho <;> simp [perform]

theorem SetsUp.perform_noFrame {o : BusOp} (ho : SetsUp o) {s : State} (h : NoFrame s.trace) :
    NoFrame (perform o s).trace := by
  cases ho <;> simp [perform, Event.isFrame, h]

/-- Answered error, it leaves the handle (D10). -/
theorem SetsUp.perform_handle_of_error {o : BusOp} (ho : SetsUp o) {s : State} (he : answeredOk s = false) :
    (perform o s).handle = s.handle := by
  cases ho <;> simp [perform, he]

/-- A transport state: answered ok it goes on to S, answered error it logs and stays (R110 to R113). -/
theorem sequencerInv_attempt {o : BusOp} (ho : SetsUp o) {S : Tag} {c : FailureCause} {s : State}
    (h : SequencerInv s) (hc : s.current ≠ .waitDriverReady) (hwait : S ≠ .waitDriverReady)
    (hoff : S ≠ .cancelCfgOffMode ∧ S ≠ .offMode) (hreinit : S ≠ .prepareReinit)
    (hprof : answeredOk s = true → attachedProfile (perform o s) = phaseProfile S) :
    SequencerInv (if answeredOk (perform o s) then goto S (perform o s) else raiseFailure c (perform o s)) := by
  obtain ⟨-, hout, hheld⟩ := h.outside_rendezvous hc
  rw [answeredOk_perform]
  cases hok : answeredOk s with
  | true =>
    refine sequencerInv_goto hwait hoff (hprof hok) ?_ ?_ fun hf => ⟨ho.perform_noFrame (h.no_frame ?_), hreinit⟩
    · rw [ho.perform_outstanding, hout]
    · rw [ho.perform_held, hheld]
    · simpa using hf
  | false =>
    refine h.of_same_registers ?_ ?_ ?_ ?_ ?_ ?_ fun hno => ?_
    · simp
    · simp
    · simp [ho.perform_handle_of_error hok]
    · simp [ho.perform_outstanding]
    · simp [ho.perform_held]
    · simp
    · simpa [Event.isFrame] using ho.perform_noFrame hno

/-- A command state: one record without payload, and into the rendezvous under the same profile (R105). -/
theorem sequencerInv_send {S : Tag} {tx : Tx} {s : State} (h : SequencerInv s)
    (hcur : phaseProfile s.current = some .config) (htarget : rendezvousTarget S = true)
    (hS : phaseProfile S = some .config) (hlen : tx.length = 0) :
    SequencerInv (waitThen S (perform (.queue tx) s)) := by
  have hc : s.current ≠ .waitDriverReady := by
    intro hw
    simp [hw, phaseProfile] at hcur
  obtain ⟨hprof, hout, -⟩ := h.outside_rendezvous hc
  refine sequencerInv_waitThen htarget ?_ ?_ fun hf => ⟨?_, ?_, ?_⟩
  · rw [hS, ← hcur, ← hprof]
    simp [attachedProfile, perform]
  · simp only [perform, queueTransaction_outstanding, hout]
    split <;> omega
  · simpa [perform, Event.isFrame, hlen, wrLenBits, bufBytes] using h.no_frame (by simpa using hf)
  · rintro rfl
    cases hS
  · rintro rfl
    cases hS

theorem sequencerInv_startPeriod {s : State} (h : SequencerInv s) : SequencerInv (startPeriod (readClock s)) :=
  h.of_same_registers rfl rfl rfl rfl rfl rfl fun hno => by simpa [Event.isFrame] using hno

theorem attachedProfile_attach {s : State} (p : Profile) (hok : answeredOk s = true) :
    attachedProfile (perform (.attach p) s) = some p := by
  simp [attachedProfile, perform, hok]

theorem attachedProfile_detach {s : State} (hok : answeredOk s = true) :
    attachedProfile (perform .detach s) = none := by
  simp [attachedProfile, perform, hok]

/-- CFG_SYS_DIS: the command on a cold pass, a plain transfer on a warm one (R121). -/
theorem sequencerInv_cfgSysDis {s : State} (h : SequencerInv s) (hcur : s.current = .cfgSysDis) :
    SequencerInv (afterTick .cfgSysDis s) := by
  cases hf : s.startupInit with
  | true =>
    have ht : afterTick .cfgSysDis s = waitThen .cfgComOption (perform (.queue (cfgtx s.rom .sysDis)) s) := by
      simp [afterTick, prepare, operation, finish, hf]
    rw [ht]
    exact sequencerInv_send h (hcur ▸ rfl) rfl rfl rfl
  | false =>
    have ht : afterTick .cfgSysDis s = goto .cfgComOption (perform .none s) := by
      simp [afterTick, prepare, operation, finish, hf]
    obtain ⟨hprof, hout, hheld⟩ := h.outside_rendezvous (by simp [hcur])
    rw [hcur] at hprof
    rw [ht]
    exact sequencerInv_goto (by decide) (by decide) hprof hout hheld (by simp [hf])

/-- REFRESH: past the window to PREPARE_REINIT, inside it a frame and the rendezvous; either way the flag is 0 (R130).
-/
theorem sequencerInv_refresh {s : State} (h : SequencerInv s) (hcur : s.current = .refresh) :
    SequencerInv (afterTick .refresh s) := by
  obtain ⟨hprof, hout, hheld⟩ := h.outside_rendezvous (by simp [hcur])
  rw [hcur] at hprof
  cases hw : timedOut s with
  | true =>
    rw [afterTick_refresh_timedOut s hw]
    exact sequencerInv_goto (by decide) (by decide) hprof hout hheld (by simp)
  | false =>
    rw [afterTick_refresh_inWindow s hw]
    refine sequencerInv_waitThen rfl ?_ ?_ ?_
    · simpa [attachedProfile, perform] using hprof
    · simp only [perform, queueTransaction_outstanding, encodeFrame_outstanding, readClock_outstanding,
        clearStartup_outstanding, hout]
      split <;> omega
    · simp

/-- PREPARE_REINIT: detached it starts over, otherwise it comes back through the rendezvous (R114). -/
theorem sequencerInv_prepareReinit {s : State} (h : SequencerInv s) (hcur : s.current = .prepareReinit) :
    SequencerInv (afterTick .prepareReinit s) := by
  have hflag : s.startupInit = false := by
    refine Bool.eq_false_iff.2 fun hf => ?_
    obtain ⟨-, hreinit, -⟩ := h.startup hf
    exact hreinit hcur
  obtain ⟨hprof, hout, hheld⟩ := h.outside_rendezvous (by simp [hcur])
  rw [hcur] at hprof
  cases hok : answeredOk s with
  | true =>
    have ht : afterTick .prepareReinit s
        = goto .setCfgProtocolFormat (perform .detach (startPeriod (readClock s))) := by
      simp [afterTick, prepare, operation, finish, hok]
    rw [ht]
    refine sequencerInv_goto (by decide) (by decide) (attachedProfile_detach (by simpa using hok)) ?_ ?_ ?_
    · simpa [perform] using hout
    · simpa [perform] using hheld
    · simp [hflag]
  | false =>
    have ht : afterTick .prepareReinit s
        = waitThen .prepareReinit (raiseFailure .detachRefresh (perform .detach (startPeriod (readClock s)))) := by
      simp [afterTick, prepare, operation, finish, hok]
    rw [ht]
    refine sequencerInv_waitThen rfl ?_ ?_ ?_
    · simpa [attachedProfile, perform, hok] using hprof
    · simp [perform, hout]
    · simp [hflag]

/-- WAIT_DRIVER_READY: returned, on to `next` with nothing outstanding; otherwise held (R131). -/
theorem sequencerInv_waitDriverReady {s : State} (h : SequencerInv s) (hcur : s.current = .waitDriverReady) :
    SequencerInv (afterTick .waitDriverReady s) := by
  obtain ⟨hprof, hout, htarget⟩ := h.in_rendezvous hcur
  have hstart : s.startupInit = true → NoFrame (perform .await s).trace ∧ s.next ≠ .refresh
      ∧ s.next ≠ .prepareReinit := by
    intro hf
    obtain ⟨-, -, hnext⟩ := h.startup hf
    have hno := h.no_frame hf
    refine ⟨?_, hnext hcur⟩
    simp only [perform, awaitResult_trace]
    split <;> simp [hno, Event.isFrame]
  cases hv : s.port.rspValid with
  | true =>
    have ht : afterTick .waitDriverReady s = goto s.next (perform .await s) := by
      simp [afterTick, prepare, operation, finish, hv]
    rw [ht]
    refine sequencerInv_goto ?_ ?_ ?_ ?_ ?_ fun hf => ?_
    · rintro hn
      simp [hn, rendezvousTarget] at htarget
    · constructor <;> rintro hn <;> simp [hn, rendezvousTarget] at htarget
    · simpa [attachedProfile, perform] using hprof
    · simp only [perform, awaitResult_outstanding, hv, if_true]
      omega
    · simp [perform, hv]
    · obtain ⟨hno, -, hreinit⟩ := hstart (by simpa using hf)
      exact ⟨hno, hreinit⟩
  | false =>
    have ht : afterTick .waitDriverReady s = perform .await s := by
      simp [afterTick, prepare, operation, finish, hv]
    rw [ht]
    refine ⟨?_, ?_, ?_, fun hf => ?_⟩
    · simpa [ProfileInv, attachedProfile, phase, perform, hcur] using hprof
    · simp [RendezvousInv, perform, hcur, hv, hout, htarget]
    · simp [OffPathInv, perform, hcur]
    · obtain ⟨hno, htags⟩ := hstart (by simpa using hf)
      exact ⟨hno, by simp [perform, hcur], fun _ => by simpa using htags⟩

theorem sequencerInv_afterTick {s : State} (h : SequencerInv s) : SequencerInv (afterTick s.current.instr s) := by
  obtain ⟨hoffCancel, hoffMode⟩ := h.off_path
  cases hcur : s.current
  case initPeripheral =>
    have hc : s.current ≠ .waitDriverReady := by simp [hcur]
    refine sequencerInv_attempt (s := s) .busInit h hc (by decide) (by decide) (by decide) fun _ => ?_
    have hprof := (h.outside_rendezvous hc).1
    rw [hcur] at hprof
    simpa [attachedProfile, perform, phaseProfile] using hprof
  case setCfgProtocolFormat =>
    exact sequencerInv_attempt (s := s) (.attach .config) h (by simp [hcur]) (by decide) (by decide)
      (by decide) (attachedProfile_attach .config)
  case cancelCfgProtocolFormat =>
    exact sequencerInv_attempt (s := s) .detach h (by simp [hcur]) (by decide) (by decide) (by decide)
      attachedProfile_detach
  case setWriteProtocolFormat =>
    exact sequencerInv_attempt (s := startPeriod (readClock s)) (.attach .refresh) (sequencerInv_startPeriod h)
      (by simp [hcur]) (by decide) (by decide) (by decide) (attachedProfile_attach .refresh)
  case cfgSysDis => exact sequencerInv_cfgSysDis h hcur
  case cfgComOption => exact sequencerInv_send (s := s) h (hcur ▸ rfl) rfl rfl rfl
  case cfgMasterMode => exact sequencerInv_send (s := s) h (hcur ▸ rfl) rfl rfl rfl
  case cfgSysOn => exact sequencerInv_send (s := s) h (hcur ▸ rfl) rfl rfl rfl
  case cfgPwmMode => exact sequencerInv_send (s := s) h (hcur ▸ rfl) rfl rfl rfl
  case cfgBlinkMode => exact sequencerInv_send (s := s) h (hcur ▸ rfl) rfl rfl rfl
  case cfgLedOn => exact sequencerInv_send (s := s) h (hcur ▸ rfl) rfl rfl rfl
  case refresh => exact sequencerInv_refresh h hcur
  case prepareReinit => exact sequencerInv_prepareReinit h hcur
  case waitDriverReady => exact sequencerInv_waitDriverReady h hcur
  case cancelCfgOffMode => exact absurd hcur hoffCancel
  case offMode => exact absurd hcur hoffMode

/-! ## The obligations -/

/-- Settles O53: a reset edge establishes the invariant, a tick keeps it, and latching, idling and settling write none
of its registers. -/
theorem stepKeepsSequencerInv : Obligations.StepKeepsSequencerInv := by
  intro s t h hstep
  obtain ⟨s₁, hl⟩ := step_next_latched s t hstep
  obtain ⟨i, rest, rfl⟩ := latchInput_ok s s₁ hl
  have hlatched : SequencerInv (latch s i rest) := h
  rcases step_cases hl hstep with ⟨-, rfl⟩ | ⟨-, rfl | rfl⟩
  · exact sequencerInv_coldInit s.rom (s.tick + 1)
  · exact sequencerInv_afterTick hlatched
  · exact hlatched

end Sys2Proof.Machine
end

section
/-!
What follows from the invariant about the order of operations (R195, R196), the frame that a tick leaves in `BUF` (R38,
R151), and the invariants of the reset state.
-/

namespace Sys2Proof.Machine

/-! ## The phases in which an operation is presented -/

theorem phaseProfile_of_attach {T : Tag} {s : State} {p : Profile} (h : operation T.instr s = .attach p) :
    T ≠ .waitDriverReady ∧ phaseProfile T = none := by
  rw [operation_eq_attach_iff] at h
  cases T <;> simp_all [Tag.instr, phaseProfile]

theorem phaseProfile_of_detach {T : Tag} {s : State} (h : operation T.instr s = .detach) :
    T = .cancelCfgOffMode ∨ T ≠ .waitDriverReady ∧ phaseProfile T ≠ none := by
  rw [operation_eq_detach_iff] at h
  cases T <;> simp_all [Tag.instr, phaseProfile]

theorem phaseProfile_of_queue {T : Tag} {s : State} {tx : Tx} (h : operation T.instr s = .queue tx) :
    T ≠ .waitDriverReady ∧ phaseProfile T ≠ none := by
  cases T <;> simp_all [Tag.instr, operation, phaseProfile]

/-- In a phase with a profile, outside the rendezvous, a device is attached and nothing is outstanding (R39). -/
theorem SequencerInv.attached_idle {s : State} (h : SequencerInv s)
    (hc : s.current ≠ .waitDriverReady ∧ phaseProfile s.current ≠ none) :
    s.outstanding = 0 ∧ ∃ h, s.handle = some h := by
  obtain ⟨hprof, hout, -⟩ := h.outside_rendezvous hc.1
  refine ⟨hout, Option.ne_none_iff_exists'.1 fun hn => hc.2 ?_⟩
  rw [← hprof, attachedProfile, hn]
  rfl

/-- A tick attaches only where no device is held (R195). -/
theorem SequencerInv.detached_of_attach {s : State} {p : Profile} (h : SequencerInv s)
    (he : Event.attachDevice p ∈ newEvents s (afterTick s.current.instr s)) : s.handle = none := by
  obtain ⟨hc, hnone⟩ := phaseProfile_of_attach (operation_of_attach_event he)
  have hprof := (h.outside_rendezvous hc).1
  rw [hnone] at hprof
  exact Option.map_eq_none_iff.1 hprof

/-! ## The frame -/

theorem timedOut_eq_true_iff (s : State) :
    timedOut s = true ↔ 5000000 ≤ (s.port.nowUs - s.refreshPeriodStart).toNat := by
  simp [timedOut, elapsed, now, BitVec.le_def, refreshPeriodUs]

theorem timedOut_eq_false_iff (s : State) :
    timedOut s = false ↔ (s.port.nowUs - s.refreshPeriodStart).toNat < 5000000 := by
  rw [← Bool.not_eq_true, timedOut_eq_true_iff, Nat.not_le]

/-- A sum of distinct powers 2^2 to 2^6, bit by bit: the shape of R151's frame byte. -/
theorem getLsbD_sum_of_bits (b0 b1 b2 b3 b4 : Bool) (i : Nat) (hi : i < 8) :
    (BitVec.ofNat 8 (bitAt b0 2 + bitAt b1 3 + bitAt b2 4 + bitAt b3 5 + bitAt b4 6)).getLsbD i
      = if i = 6 then b4 else if i = 5 then b3 else if i = 4 then b2 else if i = 3 then b1
        else if i = 2 then b0 else false := by
  revert b0 b1 b2 b3 b4
  interval_cases i <;> decide

/-- The bits of a frame byte are the five columns of R151. -/
theorem frameByte_getLsbD (rom : Rom) (x : FrameInput) (a i : Nat) (hi : i < 8) :
    (frameByte rom x a).getLsbD i
      = if i = 6 then column rom x 4 a else if i = 5 then column rom x 3 a else if i = 4 then column rom x 2 a
        else if i = 3 then column rom x 1 a else if i = 2 then column rom x 0 a else false :=
  getLsbD_sum_of_bits _ _ _ _ _ i hi

theorem maskAt_getLsbD (s : State) (d : Fin 5) (k a : Nat) (ha : a < 16) :
    (maskAt s d k).getLsbD a
      = if a = s.rom.val.segDp then
          (atDigit (sharedAt s k).digits d).decimalPoint && (atDigit (sharedAt s (k + 1)).digitBlink d).toggle
        else (segtabEntry s.rom (atDigit (sharedAt s k).digits d).character).getLsbD a
          && (atDigit (sharedAt s (k + 1)).digitBlink d).toggle :=
  digitMask_getLsbD _ _ _ _ ha

/-- The columns of digits 1 to 4 are their masks; digit 0's is too, but for the shared bit (R147). -/
theorem column_eq_maskAt (s : State) (a : Nat) (ha : a < 16) :
    column s.rom (frameInput s) 1 a = (maskAt s 1 3).getLsbD a
      ∧ column s.rom (frameInput s) 2 a = (maskAt s 2 5).getLsbD a
      ∧ column s.rom (frameInput s) 3 a = (maskAt s 3 7).getLsbD a
      ∧ column s.rom (frameInput s) 4 a = (maskAt s 4 9).getLsbD a := by
  simp only [maskAt_getLsbD _ _ _ _ ha]
  exact ⟨rfl, rfl, rfl, rfl⟩

/-- Whether step 4 sets the shared bit, in the terms of `encodeFrame_buf` (R147). -/
def sharedBit (s : State) : Bool :=
  sharedBitSet (atDigit (sharedAt s 1).digits 0).decimalPoint (iconBlinkOf (sharedAt s 11) s.rom.val.iconWifi)

theorem or_eq_ite_and : ∀ p w t : Bool, (p || w) = if (p || w) = true then true else (p && t) := by decide

/-- Digit 0's column: its mask, or 1 where step 4 sets the shared bit. -/
theorem column_zero (s : State) (a : Nat) (ha : a < 16) :
    column s.rom (frameInput s) 0 a
      = if a = s.rom.val.segDp ∧ sharedBit s = true then true else (maskAt s 0 1).getLsbD a := by
  rw [maskAt_getLsbD _ _ _ _ ha]
  by_cases h : a = s.rom.val.segDp
  · simp only [column, h, if_true, true_and]
    exact or_eq_ite_and _ _ _
  · simp only [column, h, false_and, if_false]
    rfl

theorem read_placedDigits_of_ge (s : State) (a : Nat) (ha : ¬ a < bufBytes) :
    Table.read (placedDigits s) a = Table.read s.buf a := by
  simp only [placedDigits, read_placeMask, read_clearBuf, if_neg ha]

/-- A read of the finished `BUF`: the shared bit on top of the placed columns. -/
theorem read_encodeFrame_buf_placed (s : State) (a : Nat) :
    Table.read (encodeFrame s).buf a
      = if a = s.rom.val.segDp ∧ sharedBit s = true then some (withBit (bufByte (placedDigits s) a) 2 true)
        else Table.read (placedDigits s) a := by
  rw [encodeFrame_buf]
  change Table.read (if sharedBit s = true then _ else _) a = _
  by_cases hs : sharedBit s = true
  · rw [if_pos hs, read_placeBit]
    by_cases h : a = s.rom.val.segDp
    · simp [h, hs, digitBitOffset]
    · simp [h, Ne.symm h]
  · simp [hs]

/-- A byte that has the bits of the placed columns is, with the shared bit, the frame's byte. -/
theorem eq_frameByte (s : State) (a : Nat) (ha : a < 16) (b : Byte) (hb : Table.read (placedDigits s) a = some b) :
    (if a = s.rom.val.segDp ∧ sharedBit s = true then withBit b 2 true else b) = frameByte s.rom (frameInput s) a := by
  obtain ⟨h1, h2, h3, h4⟩ := column_eq_maskAt s a ha
  apply BitVec.eq_of_getLsbD_eq
  intro i hi
  obtain ⟨b', hb', hbit⟩ := placedDigits_getLsbD s a i ha hi
  rw [hb] at hb'
  cases hb'
  rw [frameByte_getLsbD _ _ _ _ hi, column_zero s a ha, h1, h2, h3, h4]
  split
  · rw [withBit_getLsbD _ _ _ _ hi, hbit]
    by_cases h : i = 2 <;> simp [h]
  · exact hbit

/-- The closed form of R151: the loop of R141 leaves the frame of the values read, and writes nothing else. -/
theorem read_encodeFrame_buf (s : State) (a : Nat) :
    Table.read (encodeFrame s).buf a
      = if a < 16 then some (frameByte s.rom (frameInput s) a) else Table.read s.buf a := by
  rw [read_encodeFrame_buf_placed]
  by_cases ha : a < 16
  · obtain ⟨b, hb, -⟩ := placedDigits_getLsbD s a 0 ha (by decide)
    rw [if_pos ha, ← eq_frameByte s a ha b hb, hb, bufByte_of_read _ _ _ hb, apply_ite some]
  · have hne : a ≠ s.rom.val.segDp := fun h => ha (h ▸ segDp_lt s.rom)
    rw [if_neg ha, if_neg (fun h => hne h.1), read_placedDigits_of_ge s a ha]

/-- A REFRESH inside the window queues the record of the frame it has just encoded (R130, R148). -/
theorem operation_refresh_inWindow (s : State) (hw : timedOut s = false) :
    operation .refresh (prepare .refresh s) = .queue (wrtx s.rom (encodeFrame s).buf) := by
  simp [operation, prepare_refresh_inWindow s hw, hw]

theorem afterTick_refresh_buf (s : State) (hw : timedOut s = false) :
    (afterTick .refresh s).buf = (encodeFrame s).buf := by
  rw [afterTick_buf, prepare_refresh_inWindow s hw, encodeFrame_readClock_clearStartup_buf]

/-! ## The obligations -/

/-- Settles O2: the init entry holds no handle, no memory and no event. -/
theorem resetMeetsInvariants : Obligations.ResetMeetsInvariants := by
  refine ⟨sequencerInv_coldInit Config.rom 0, ⟨rfl, rfl, rfl⟩, ?_, ?_⟩
  · intro a b hb
    cases hb
  · intro e he
    cases he

/-- Settles O56: an event names the operation, the operation names the phase, and the phase gives handle and flight. -/
theorem operationsInOrder : Obligations.OperationsInOrder := by
  intro s t hinv h e he
  rw [eq_afterTick_of_exec h] at he
  refine ⟨?_, ?_, ?_⟩
  · rintro ⟨p, rfl⟩
    exact hinv.detached_of_attach he
  · rintro ⟨h, tx, q, rfl⟩
    exact hinv.attached_idle (phaseProfile_of_queue (operation_of_queue_event he).1)
  · rintro ⟨h, rfl⟩
    obtain hoff | hc := phaseProfile_of_detach (operation_of_detach_event he).1
    · exact absurd hoff hinv.off_path.1
    · exact hinv.attached_idle hc

/-- Settles O50: a frame alone writes `BUF`, with the closed form; its record is taken from that `BUF`; and an attach is
presented only in a phase without a profile. -/
theorem bufferAndProfileDiscipline : Obligations.BufferAndProfileDiscipline := by
  refine ⟨?_, ?_, ?_⟩
  · intro i s t h hi a
    rw [← timedOut_eq_true_iff] at hi
    rw [eq_afterTick_of_exec h, afterTick_buf, (preparation_prepare i s).buf_of_no_frame hi]
  · intro s t h hw
    rw [← timedOut_eq_false_iff] at hw
    rw [eq_afterTick_of_exec h, afterTick_refresh_buf s hw]
    refine ⟨fun a ha => by rw [read_encodeFrame_buf, if_pos ha], fun hd tx q he => ?_⟩
    have hop := (operation_of_queue_event he).1
    rw [operation_refresh_inWindow s hw] at hop
    cases hop
    rfl
  · intro s t p hinv h he
    rw [eq_afterTick_of_exec h] at he
    exact hinv.detached_of_attach he

end Sys2Proof.Machine
end

section
/-!
The memories: what one write of the environment does to the shared display state (R50, R55), that the canonical form
makes a table's data a function of its reads, and that every edge keeps the canonical form.
-/

namespace Sys2Proof.Machine

/-! ## One element of the shared display state -/

theorem atDigit_setDigit {α : Type} (p : PerDigit α) (d d' : Fin 5) (v : α) :
    atDigit (setDigit p d v) d' = if d' = d then v else atDigit p d' := by
  fin_cases d <;> fin_cases d' <;> rfl

/-- An element of a partly written table, read with its default, after a write (R43, R50). -/
theorem Table.read_write_getD {α : Type} (t : Table α) (k j : Nat) (v default : α) :
    (Table.read (Table.write t k v) j).getD default = if j = k then v else (Table.read t j).getD default := by
  rw [Table.read_write]
  by_cases h : k = j
  · simp [h]
  · simp [h, Ne.symm h]

/-! ## The canonical form determines the data -/

theorem Table.risingFrom_cons {α : Type} (low a : Nat) (x : α) (t : Table α) :
    Table.risingFrom low ((a, x) :: t) = true ↔ low ≤ a ∧ Table.risingFrom (a + 1) t = true := by
  simp [Table.risingFrom]

theorem Table.read_cons_self {α : Type} (a : Nat) (x : α) (t : Table α) : Table.read ((a, x) :: t) a = some x :=
  if_pos rfl

/-- A table whose keys rise from a bound lists nothing below it. -/
theorem Table.le_of_read_eq_some {α : Type} {low k : Nat} {v : α} {t : Table α} (ht : Table.risingFrom low t = true)
    (hk : Table.read t k = some v) : low ≤ k := by
  induction t generalizing low with
  | nil => cases hk
  | cons e rest ih =>
    obtain ⟨a, x⟩ := e
    obtain ⟨hlow, hrest⟩ := (Table.risingFrom_cons low a x rest).1 ht
    rw [Table.read] at hk
    split at hk
    · omega
    · have := ih hrest hk
      omega

theorem Table.read_eq_none_of_lt {α : Type} {low k : Nat} {t : Table α} (ht : Table.risingFrom low t = true)
    (hk : k < low) : Table.read t k = none :=
  Option.eq_none_iff_forall_ne_some.2 fun _ hv => Nat.not_le.2 hk (Table.le_of_read_eq_some ht hv)

/-- Rising tables that read alike are equal: the least key listed by one is the least key listed by the other, and below
the rest of either nothing is listed. -/
theorem Table.eq_of_read_eq {α : Type} {low : Nat} {t u : Table α} (ht : Table.risingFrom low t = true)
    (hu : Table.risingFrom low u = true) (h : ∀ k, Table.read t k = Table.read u k) : t = u := by
  induction t generalizing low u with
  | nil =>
    cases u with
    | nil => rfl
    | cons f u =>
      have hf := h f.1
      rw [Table.read_cons_self] at hf
      cases hf
  | cons e t ih =>
    obtain ⟨a, x⟩ := e
    obtain ⟨-, ht'⟩ := (Table.risingFrom_cons low a x t).1 ht
    have ha := h a
    rw [Table.read_cons_self] at ha
    cases u with
    | nil => cases ha
    | cons f u =>
      obtain ⟨b, y⟩ := f
      obtain ⟨-, hu'⟩ := (Table.risingFrom_cons low b y u).1 hu
      have hb := h b
      rw [Table.read_cons_self] at hb
      have hba : b ≤ a := Table.le_of_read_eq_some ((Table.risingFrom_cons b b y u).2 ⟨le_rfl, hu'⟩) ha.symm
      have hab : a ≤ b := Table.le_of_read_eq_some ((Table.risingFrom_cons a a x t).2 ⟨le_rfl, ht'⟩) hb
      obtain rfl : a = b := le_antisymm hab hba
      obtain rfl : x = y := by simpa [Table.read_cons_self] using ha
      rw [ih ht' hu' fun k => ?_]
      by_cases hk : a = k
      · rw [Table.read_eq_none_of_lt ht' (by omega), Table.read_eq_none_of_lt hu' (by omega)]
      · simpa [Table.read, hk] using h k

/-! ## The canonical form of the shared display state -/

/-- The two written tables of the shared display state are in canonical form (R50). -/
def SharedWf (rom : Rom) (sh : Shared) : Prop :=
  Memory.wf (iconBitmapBytes rom) sh.icons = true ∧ Table.wf rom.val.iconCount sh.iconBlink = true

theorem memoryInv_iff (s : State) : MemoryInv s ↔ Memory.wf bufBytes s.buf = true ∧ SharedWf s.rom s.shared :=
  Iff.rfl

theorem sharedWf_coldInit (rom : Rom) : SharedWf rom (Shared.coldInit rom) :=
  ⟨Memory.wf_nil _, rfl⟩

theorem missingElement_iconBlink_eq_none_iff (rom : Rom) (i : Nat) (v : BlinkState) :
    missingElement rom (.iconBlink i v) = none ↔ i < rom.val.iconCount := by
  simp [missingElement]

theorem missingElement_icons_eq_none_iff (rom : Rom) (k : Nat) (v : Byte) :
    missingElement rom (.icons k v) = none ↔ k < iconBitmapBytes rom := by
  simp [missingElement]

/-- A write to an element that exists keeps the canonical form. -/
theorem sharedWf_applyWrite {rom : Rom} {sh : Shared} (h : SharedWf rom sh) {w : EnvWrite}
    (hw : missingElement rom w = none) : SharedWf rom (applyWrite sh w) := by
  obtain ⟨hicons, hblink⟩ := h
  cases w with
  | digit d v => exact ⟨hicons, hblink⟩
  | digitBlink d v => exact ⟨hicons, hblink⟩
  | iconBlink i v =>
    exact ⟨hicons, Table.wf_write _ i v _ hblink ((missingElement_iconBlink_eq_none_iff rom i v).1 hw)⟩
  | icons k v => exact ⟨Memory.wf_write _ k v _ hicons ((missingElement_icons_eq_none_iff rom k v).1 hw), hblink⟩

theorem applyPhases_eq_foldl_flatten (sh : Shared) (phases : List (List EnvWrite)) :
    applyPhases sh phases = phases.flatten.foldl applyWrite sh :=
  List.foldl_flatten.symm

theorem sharedWf_applyPhases {rom : Rom} {sh : Shared} (h : SharedWf rom sh) {phases : List (List EnvWrite)}
    (hw : ∀ w ∈ phases.flatten, missingElement rom w = none) : SharedWf rom (applyPhases sh phases) := by
  rw [applyPhases_eq_foldl_flatten]
  exact List.foldlRecOn _ applyWrite h fun _ hsh w hmem => sharedWf_applyWrite hsh (hw w hmem)

/-! ## The canonical form across an edge -/

/-- Preparing a tick writes `BUF` by the Encoder or not at all. -/
theorem Preparation.buf_wf {i : Instr} {s p : State} (h : Preparation s i p) (hs : Memory.wf bufBytes s.buf = true) :
    Memory.wf bufBytes p.buf = true := by
  cases h
  case none => exact hs
  case timer => exact hs
  case timeout => exact hs
  case frame => exact encodeFrame_wf _ hs

/-- After a tick and the writes left over, exactly the edge's writes have landed (R59, R170). -/
theorem settle_afterTick_shared (i : Instr) (s : State) :
    (settle (afterTick i s)).shared = applyPhases s.shared s.port.moves := by
  rw [settle_shared, afterTick_shared, afterTick_port, (preparation_prepare i s).writes_landed]

theorem memoryInv_settle_afterTick {s : State} (i : Instr) (h : MemoryInv s)
    (hw : ∀ w ∈ s.port.moves.flatten, missingElement s.rom w = none) : MemoryInv (settle (afterTick i s)) := by
  obtain ⟨hbuf, hshared⟩ := (memoryInv_iff s).1 h
  rw [memoryInv_iff, settle_afterTick_shared, settle_rom, afterTick_rom, settle_buf, afterTick_buf]
  exact ⟨(preparation_prepare i s).buf_wf hbuf, sharedWf_applyPhases hshared hw⟩

/-! ## The obligations -/

/-- Settles O54: latching admits only writes to elements that exist, the Encoder writes only inside `BUF`, and a reset
empties every table. -/
theorem stepKeepsMemoryInv : Obligations.StepKeepsMemoryInv := by
  intro s t h hstep
  obtain ⟨s₁, hl⟩ := step_next_latched s t hstep
  have hw := latchInput_moves s s₁ hl
  obtain ⟨i, rest, rfl⟩ := latchInput_ok s s₁ hl
  have hlatched : MemoryInv (latch s i rest) := h
  obtain ⟨hbuf, hshared⟩ := (memoryInv_iff _).1 hlatched
  rcases step_cases hl hstep with ⟨-, rfl⟩ | ⟨-, rfl | rfl⟩
  · exact ⟨Memory.wf_nil _, sharedWf_applyPhases (sharedWf_coldInit _) hw⟩
  · exact memoryInv_settle_afterTick _ hlatched hw
  · exact ⟨hbuf, sharedWf_applyPhases hshared hw⟩

/-- Settles O60: a memory in canonical form has its keys rising from 0, so its reads determine it. -/
theorem canonicalMemoryIsExtensional : Obligations.CanonicalMemoryIsExtensional := by
  intro size m n hm hn h
  simp only [Memory.wf, Table.wf, Bool.and_eq_true] at hm hn
  exact Table.eq_of_read_eq hm.1 hn.1 h

/-- Settles O8: the word fetched is the code of `current`, which decodes for each of the sixteen tags. -/
theorem everyTagFetches : Obligations.EveryTagFetches :=
  fun s => decode_encodeState s.current

/-- Settles O59: a read after a write, in the tables of five and in the tables with natural-number keys; the frame of
each kind of write is its own definition. -/
theorem environmentWritesOneElement : Obligations.EnvironmentWritesOneElement := by
  intro sh d v b k x
  refine ⟨fun d' => atDigit_setDigit sh.digits d d' v, fun d' => atDigit_setDigit sh.digitBlink d d' b,
    fun k' => Table.read_write_getD sh.iconBlink k k' b _, fun k' => Table.read_write_getD sh.icons k k' x _, ?_⟩
  intro w
  refine ⟨?_, ?_, ?_, ?_⟩ <;> rintro rfl <;> rfl

end Sys2Proof.Machine
end

section
/-!
Words and their instructions: what each part of the decoder accepts, read backwards to the word, and the two directions
of the round trip (R70 to R75, R81, R85).
-/

namespace Sys2Proof

/-! ## Bytes and numbers -/

/-- The bytes of a word's number are the word's bytes. -/
theorem bytesOf_numberOf {n : Nat} {bytes : List Byte} (h : bytes.length = n) : bytesOf n (numberOf bytes) = bytes := by
  subst h
  induction bytes with
  | nil => rfl
  | cons b bs ih =>
    have hb := b.isLt
    have hlow : BitVec.ofNat 8 (b.toNat + 256 * numberOf bs) = b := by
      apply BitVec.eq_of_toNat_eq
      rw [BitVec.toNat_ofNat]
      omega
    have hrest : (b.toNat + 256 * numberOf bs) / 256 = numberOf bs := by omega
    rw [List.length_cons, numberOf, bytesOf, hlow, hrest, ih]

/-! ## Encoding what the decoder builds -/

theorem encode_instr (t : Tag) : encode t.instr = (.state, encodeState t) := by
  cases t <;> rfl

theorem wf_instr (t : Tag) : t.instr.wf = true := by
  cases t <;> rfl

theorem encode_cfgtxInstr (k : CfgCommand) (cmd : BitVec 3) (addr : BitVec 8) :
    encode (cfgtxInstr k cmd addr) = (.cfgtx k, bytesOf 2 (joinHeader .config cmd.toNat addr.toNat)) := by
  cases k <;> rfl

theorem wf_cfgtxInstr (k : CfgCommand) (cmd : BitVec 3) (addr : BitVec 8) : (cfgtxInstr k cmd addr).wf = true := by
  cases k <;> rfl

/-- A header in range is the join of its two fields (R73, R85). -/
theorem joinHeader_fields (p : Profile) {w : Nat} (hw : w < 2 ^ p.headerBits) :
    joinHeader p (BitVec.ofNat p.commandBits (headerCmd p w)).toNat (BitVec.ofNat p.addressBits (headerAddr p w)).toNat
      = w := by
  have hcmd : headerCmd p w < 2 ^ p.commandBits := by
    rw [Profile.headerBits, Nat.add_comm, Nat.pow_add] at hw
    exact Nat.div_lt_of_lt_mul hw
  have haddr : headerAddr p w < 2 ^ p.addressBits := Nat.mod_lt _ (Nat.two_pow_pos _)
  rw [BitVec.toNat_ofNat, BitVec.toNat_ofNat, Nat.mod_eq_of_lt hcmd, Nat.mod_eq_of_lt haddr]
  exact Nat.div_add_mod' w _

/-! ## What the decoder accepts -/

theorem code_of_ofCode {n : Nat} {t : Tag} (h : Tag.ofCode n = some t) : t.code.toNat = n := by
  unfold Tag.ofCode at h
  split at h <;> cases h <;> rfl

theorem decodeState_ok {bytes : List Byte} {i : Instr} (h : decodeState bytes = .ok i) :
    ∃ t, bytes = encodeState t ∧ i = t.instr := by
  unfold decodeState at h
  split at h
  · cases h
  next hlen =>
    split at h
    next t ht =>
      refine ⟨t, ?_, (Except.ok.inj h).symm⟩
      rw [encodeState, code_of_ofCode ht, bytesOf_numberOf (not_not.1 hlen)]
    · cases h

theorem decodeCfgtx_ok {k : CfgCommand} {bytes : List Byte} {i : Instr} (h : decodeCfgtx k bytes = .ok i) :
    ∃ (cmd : BitVec 3) (addr : BitVec 8),
      bytes = bytesOf 2 (joinHeader .config cmd.toNat addr.toNat) ∧ i = cfgtxInstr k cmd addr := by
  simp only [decodeCfgtx] at h
  split at h
  · cases h
  next hlen =>
    split at h
    · cases h
    next hw =>
      refine ⟨_, _, ?_, (Except.ok.inj h).symm⟩
      have hjoin := joinHeader_fields .config (Nat.not_le.1 hw)
      exact (bytesOf_numberOf (not_not.1 hlen)).symm.trans (congrArg (bytesOf 2) hjoin.symm)

theorem decodeWrtx_ok {bytes : List Byte} {i : Instr} (h : decodeWrtx bytes = .ok i) :
    ∃ (cmd : BitVec 3) (addr : BitVec 7),
      bytes = bytesOf 2 (joinHeader .refresh cmd.toNat addr.toNat) ∧ i = .wrtx cmd addr := by
  simp only [decodeWrtx] at h
  split at h
  · cases h
  next hlen =>
    split at h
    · cases h
    next hw =>
      refine ⟨_, _, ?_, (Except.ok.inj h).symm⟩
      have hjoin := joinHeader_fields .refresh (Nat.not_le.1 hw)
      exact (bytesOf_numberOf (not_not.1 hlen)).symm.trans (congrArg (bytesOf 2) hjoin.symm)

theorem bareOp_ok {rest : Nat} {i j : Instr} (h : bareOp rest i = .ok j) : rest = 0 ∧ j = i := by
  unfold bareOp at h
  split at h
  next hrest => exact ⟨hrest, (Except.ok.inj h).symm⟩
  · cases h

theorem decodeAttach_ok {rest : Nat} {i : Instr} (h : decodeAttach rest = .ok i) :
    ∃ p : Profile, rest = p.code.toNat ∧ i = .busopAttach p := by
  unfold decodeAttach at h
  split at h
  · exact ⟨.config, rfl, (Except.ok.inj h).symm⟩
  · exact ⟨.refresh, rfl, (Except.ok.inj h).symm⟩
  · cases h

/-- The ports of a QUEUE above `op_code` and `op_profile`, from their fields (R41). -/
theorem joinQueuePorts_fields {rest : Nat} (heven : rest % 2 = 0) (hlt : rest < 2 ^ 20) :
    2 * ((BitVec.ofNat 3 (rest / 2)).toNat
      + 8 * ((BitVec.ofNat 8 (rest / 16)).toNat + 256 * (BitVec.ofNat 8 (rest / 4096)).toNat)) = rest := by
  simp only [BitVec.toNat_ofNat]
  omega

theorem decodeQueue_ok {rest : Nat} {i : Instr} (h : decodeQueue rest = .ok i) :
    ∃ (cmd : BitVec 3) (addr len : BitVec 8),
      rest = 2 * (cmd.toNat + 8 * (addr.toNat + 256 * len.toNat))
        ∧ txLengthOk len = true ∧ txAddrOk addr len = true ∧ i = .busopQueue cmd addr len := by
  simp only [decodeQueue] at h
  split at h
  · cases h
  next heven =>
  split at h
  · cases h
  next hlt =>
  split at h
  · cases h
  next hlen =>
  split at h
  · cases h
  next haddr =>
  exact ⟨_, _, _, (joinQueuePorts_fields (not_not.1 heven) (Nat.not_le.1 hlt)).symm, by simpa using hlen,
    by simpa using haddr, (Except.ok.inj h).symm⟩

/-- The instructions whose word stands on the operation ports (R81). -/
theorem decodeBusop_ok {bytes : List Byte} {i : Instr} (h : decodeBusop bytes = .ok i) :
    encode i = (.busop, bytes) ∧ i.wf = true := by
  simp only [decodeBusop] at h
  split at h
  · cases h
  next hlen =>
  have hword : ∀ op rest, numberOf bytes % 8 = op → numberOf bytes / 8 = rest → bytesOf 3 (op + 8 * rest) = bytes := by
    rintro _ _ rfl rfl
    rw [Nat.mod_add_div, bytesOf_numberOf (not_not.1 hlen)]
  split at h
  case h_3 hop =>
    obtain ⟨p, hrest, rfl⟩ := decodeAttach_ok h
    exact ⟨congrArg _ (hword _ _ hop hrest), rfl⟩
  case h_5 hop =>
    obtain ⟨cmd, addr, len, hrest, hl, ha, rfl⟩ := decodeQueue_ok h
    refine ⟨?_, by simp [Instr.wf, hl, ha]⟩
    rw [encode, joinPorts, Nat.zero_add, hword _ _ hop hrest]
  case h_7 => cases h
  all_goals
    rename_i hop
    obtain ⟨hrest, rfl⟩ := bareOp_ok h
    exact ⟨congrArg _ (hword _ _ hop hrest), rfl⟩

end Sys2Proof

namespace Sys2Proof.Laws.RoundTrip

/-- The family, one lemma per constructor, as one statement about every instruction. -/
theorem every_instr : ∀ i : Instr, Statement i
  | .initPeripheral => initPeripheral
  | .setCfgProtocolFormat => setCfgProtocolFormat
  | .cfgSysDis => cfgSysDis
  | .cfgComOption => cfgComOption
  | .cfgMasterMode => cfgMasterMode
  | .cfgSysOn => cfgSysOn
  | .cfgPwmMode => cfgPwmMode
  | .cfgBlinkMode => cfgBlinkMode
  | .cfgLedOn => cfgLedOn
  | .cancelCfgProtocolFormat => cancelCfgProtocolFormat
  | .setWriteProtocolFormat => setWriteProtocolFormat
  | .refresh => refresh
  | .prepareReinit => prepareReinit
  | .waitDriverReady => waitDriverReady
  | .cancelCfgOffMode => cancelCfgOffMode
  | .offMode => offMode
  | .cfgtxSysDis cmd addr => cfgtxSysDis cmd addr
  | .cfgtxComOption cmd addr => cfgtxComOption cmd addr
  | .cfgtxMasterMode cmd addr => cfgtxMasterMode cmd addr
  | .cfgtxSysOn cmd addr => cfgtxSysOn cmd addr
  | .cfgtxPwmDuty cmd addr => cfgtxPwmDuty cmd addr
  | .cfgtxBlinkOff cmd addr => cfgtxBlinkOff cmd addr
  | .cfgtxLedOn cmd addr => cfgtxLedOn cmd addr
  | .wrtx cmd addr => wrtx cmd addr
  | .busopNone => busopNone
  | .busopBusInit => busopBusInit
  | .busopAttach p => busopAttach p
  | .busopDetach => busopDetach
  | .busopQueue cmd addr len => busopQueue cmd addr len
  | .busopAwait => busopAwait

end Sys2Proof.Laws.RoundTrip

namespace Sys2Proof

/-! ## The obligations -/

/-- Settles O4: the round trip of each constructor. -/
theorem decodeOfEncode : Obligations.DecodeOfEncode :=
  Laws.RoundTrip.every_instr

/-- Settles O5: each format's decoder accepts only the words of its instructions. -/
theorem encodeOfDecode : Obligations.EncodeOfDecode := by
  intro f bytes i h
  cases f with
  | state =>
    obtain ⟨t, rfl, rfl⟩ := decodeState_ok h
    exact ⟨encode_instr t, wf_instr t⟩
  | cfgtx k =>
    obtain ⟨cmd, addr, rfl, rfl⟩ := decodeCfgtx_ok h
    exact ⟨encode_cfgtxInstr k cmd addr, wf_cfgtxInstr k cmd addr⟩
  | wrtx =>
    obtain ⟨cmd, addr, rfl, rfl⟩ := decodeWrtx_ok h
    exact ⟨rfl, rfl⟩
  | busop => exact decodeBusop_ok h

/-- Settles O6: each of the six words, decoded. -/
theorem specWordsDecode : Obligations.SpecWordsDecode :=
  ⟨rfl, rfl, rfl, rfl, rfl, rfl⟩

/-- Settles O7: `op_code` is the low three bits of the first byte, and the decoder names no operation 6 or 7. -/
theorem reservedOpCodesRejected : Obligations.ReservedOpCodesRejected := by
  intro b0 b1 b2 h
  have hop : numberOf [b0, b1, b2] % 8 = b0.toNat % 8 := by
    simp only [numberOf]
    omega
  have hlt : b0.toNat % 8 < 8 := Nat.mod_lt _ (by decide)
  simp only [decode, decodeBusop, hop]
  obtain h6 | h7 : b0.toNat % 8 = 6 ∨ b0.toNat % 8 = 7 := by omega
  · rw [h6]
    rfl
  · rw [h7]
    rfl

end Sys2Proof
end

section
/-!
The transaction and operation rows (R73 to R75, R81): each is its bus operation with the effect of the answer (R104).
-/

namespace Sys2Proof.Machine

/-! ## What a bus operation does, in one state -/

theorem queueTransaction_eq (tx : Tx) (s : State) :
    queueTransaction tx s
      = { s with
          outstanding := if s.port.rspOk then s.outstanding + 1 else s.outstanding
          out := recordPorts tx s.current
          trace := s.trace ++ [.queueTransaction s.handle tx s.rom.val.queueTimeout] } := by
  cases h : s.port.rspOk <;> simp only [queueTransaction, answeredOk, present_port, h] <;> rfl

/-- An instruction that is `QueueTransaction` of a record hands over that record and nothing else (R104). -/
theorem queuesRecord_of_exec {i : Instr} {tx : Tx} {s : State} (h : exec i s = .next (queueTransaction tx s)) :
    QueuesRecord i tx s :=
  h.trans (congrArg _ (queueTransaction_eq tx s))

theorem busInitialize_eq (s : State) :
    busInitialize s
      = { s with
          busInitialised := s.port.rspOk || s.busInitialised
          out := barePorts 1#3 0#1 s.current
          trace := s.trace ++ [.busInitialize s.rom.val.busCfg] } := by
  cases h : s.port.rspOk <;> simp only [busInitialize, answeredOk, present_port, h] <;> rfl

theorem attachDevice_eq (p : Profile) (s : State) :
    attachDevice p s
      = { s with
          handle := if s.port.rspOk then some ⟨p, s.port.token⟩ else s.handle
          out := barePorts 2#3 p.code s.current
          trace := s.trace ++ [.attachDevice p] } := by
  cases h : s.port.rspOk <;> simp only [attachDevice, answeredOk, present_port, h] <;> rfl

theorem detachDevice_eq (s : State) :
    detachDevice s
      = { s with
          handle := if s.port.rspOk then none else s.handle
          out := barePorts 3#3 0#1 s.current
          trace := s.trace ++ [.detachDevice s.handle] } := by
  cases h : s.port.rspOk <;> simp only [detachDevice, answeredOk, present_port, h] <;> rfl

theorem awaitResult_eq (s : State) :
    awaitResult s
      = { s with
          outstanding := if s.port.rspValid then s.outstanding - 1 else s.outstanding
          held := !s.port.rspValid
          out := barePorts 5#3 0#1 s.current
          trace := if s.held then s.trace else s.trace ++ [.awaitResult s.handle] } := by
  cases h : s.port.rspValid <;> simp only [awaitResult, h] <;> rfl

theorem present_none_eq (s : State) :
    present .none s = { s with out := barePorts 0#3 0#1 s.current, trace := s.trace } :=
  congrArg (fun tr => { s with out := barePorts 0#3 0#1 s.current, trace := tr }) (List.append_nil s.trace)

/-! ## The obligations -/

/-- Settles O40: each row is `QueueTransaction` of the record without payload. -/
theorem cfgtxRowsQueue : Obligations.CfgtxRowsQueue := by
  intro cmd addr s
  refine ⟨?_, ?_, ?_, ?_, ?_, ?_, ?_⟩ <;> exact queuesRecord_of_exec rfl

/-- Settles O41: the row is `QueueTransaction` of the record that carries `BUF`. -/
theorem wrtxRowQueues : Obligations.WrtxRowQueues :=
  fun _ _ _ => queuesRecord_of_exec rfl

/-- Settles O42: each row is its bus operation. -/
theorem busopRowsPresent : Obligations.BusopRowsPresent := fun p s =>
  ⟨congrArg _ (present_none_eq s), congrArg _ (busInitialize_eq s), congrArg _ (attachDevice_eq p s),
    congrArg _ (detachDevice_eq s)⟩

/-- Settles O43: the row is `QueueTransaction` of the record on the ports, which has no payload or all of `BUF`. -/
theorem busopQueueRowQueues : Obligations.BusopQueueRowQueues :=
  fun _ _ _ => ⟨queuesRecord_of_exec rfl, queuesRecord_of_exec rfl⟩

/-- Settles O44: the row is `AwaitResult`. -/
theorem busopAwaitRow : Obligations.BusopAwaitRow :=
  fun s => congrArg _ (awaitResult_eq s)

end Sys2Proof.Machine
end

section
/-!
Frames and records: the bits of a frame (R77, R150), which record a state queues and under which profile (R74, R75, R83),
and that every edge leaves `BUF` and the records sent clean (R82 (b)).
-/

namespace Sys2Proof.Machine

/-! ## The bits of a frame -/

/-- Digit d's column stands in bit d + 2 of every byte (R145, R151). -/
theorem frameByte_getLsbD_digit (rom : Rom) (x : FrameInput) (a : Nat) (d : Fin 5) :
    (frameByte rom x a).getLsbD (d.val + 2) = column rom x d a := by
  rw [frameByte_getLsbD _ _ _ _ (by omega)]
  fin_cases d <;> rfl

theorem frameByte_getLsbD_unused (rom : Rom) (x : FrameInput) (a : Nat) :
    (frameByte rom x a).getLsbD 0 = false ∧ (frameByte rom x a).getLsbD 1 = false
      ∧ (frameByte rom x a).getLsbD 7 = false := by
  refine ⟨?_, ?_, ?_⟩ <;> exact frameByte_getLsbD rom x a _ (by decide)

theorem column_of_ne_segDp (rom : Rom) (x : FrameInput) (d : Fin 5) {a : Nat} (ha : a ≠ rom.val.segDp) :
    column rom x d a = ((segtabEntry rom (atDigit x.digit d).character).getLsbD a && atDigit x.toggle d) :=
  if_neg ha

theorem column_segDp_of_ne_zero (rom : Rom) (x : FrameInput) {d : Fin 5} (hd : d ≠ 0) :
    column rom x d rom.val.segDp = ((atDigit x.digit d).decimalPoint && atDigit x.toggle d) :=
  (if_pos rfl).trans (if_neg hd)

/-! ## Clean bytes and records -/

/-- A byte is clean when bits 0, 1 and 7 are 0 (R77). -/
theorem cleanByte_iff (b : Byte) :
    cleanByte b = true ↔ b.getLsbD 0 = false ∧ b.getLsbD 1 = false ∧ b.getLsbD 7 = false := by
  revert b
  decide

theorem cleanByte_frameByte (rom : Rom) (x : FrameInput) (a : Nat) : cleanByte (frameByte rom x a) = true :=
  (cleanByte_iff _).2 (frameByte_getLsbD_unused rom x a)

theorem cleanRecord_cfgtx (rom : Rom) (k : CfgCommand) : cleanRecord (cfgtx rom k) = true := rfl

/-- The payload after an Encoder run is the frame of the values read (R75, R151). -/
theorem payloadOf_encodeFrame (s : State) : payloadOf (encodeFrame s).buf = frameImage s.rom (frameInput s) := by
  refine List.map_congr_left fun a ha => bufByte_of_read _ _ _ ?_
  rw [read_encodeFrame_buf]
  exact if_pos (List.mem_range.1 ha)

theorem cleanRecord_wrtx_encodeFrame (rom : Rom) (s : State) : cleanRecord (wrtx rom (encodeFrame s).buf) = true := by
  have hclean : (frameImage s.rom (frameInput s)).all cleanByte = true := by
    simp [frameImage, cleanByte_frameByte]
  have hlength : (frameImage s.rom (frameInput s)).length = bufBytes := by
    simp [frameImage]
  simp [cleanRecord, wrtx, writeRecord, Profile.payloadBits, payloadOf_encodeFrame, hclean, hlength]

theorem Event.clean_of_queued {e : Event}
    (h : ∀ hd tx q, e = .queueTransaction hd tx q → cleanRecord tx = true) : Event.clean e = true := by
  cases e
  case queueTransaction hd tx q => exact h hd tx q rfl
  all_goals rfl

/-! ## The records the states queue -/

/-- A state queues the record of a configuration command, in the phase of the config profile, or the frame it has just
encoded, in REFRESH (R74, R75, R148). -/
theorem queued_record {T : Tag} {s : State} {tx : Tx} (h : operation T.instr (prepare T.instr s) = .queue tx) :
    (phaseProfile T = some .config ∧ ∃ k, tx = cfgtx s.rom k)
      ∨ (T = .refresh ∧ tx = wrtx s.rom (encodeFrame s).buf) := by
  cases T
  case cfgSysDis =>
    cases hflag : s.startupInit <;> simp only [Tag.instr, prepare, operation, hflag] at h <;> cases h
    exact .inl ⟨rfl, _, rfl⟩
  case refresh =>
    cases hw : timedOut s with
    | true => simp [Tag.instr, operation, prepare_refresh_timedOut s hw, hw] at h
    | false =>
      rw [Tag.instr, operation_refresh_inWindow s hw] at h
      cases h
      exact .inr ⟨rfl, rfl⟩
  all_goals cases h
  all_goals exact .inl ⟨rfl, _, rfl⟩

theorem cleanRecord_of_queued {T : Tag} {s : State} {tx : Tx}
    (h : operation T.instr (prepare T.instr s) = .queue tx) : cleanRecord tx = true := by
  obtain ⟨-, k, rfl⟩ | ⟨-, rfl⟩ := queued_record h
  · exact cleanRecord_cfgtx s.rom k
  · exact cleanRecord_wrtx_encodeFrame s.rom s

/-! ## The frame invariant across an edge -/

theorem afterTick_trace_eq_append_newEvents (i : Instr) (s : State) :
    (afterTick i s).trace = s.trace ++ newEvents s (afterTick i s) := by
  obtain ⟨cs, ls, htr, -, -⟩ := afterTick_trace i s
  rw [newEvents_of_append htr, htr]

/-- Preparing a tick leaves a clean `BUF` clean: it writes the bytes of a frame or none. -/
theorem Preparation.buf_clean {i : Instr} {s p : State} (h : Preparation s i p)
    (hs : ∀ a b, Table.read s.buf a = some b → cleanByte b = true) :
    ∀ a b, Table.read p.buf a = some b → cleanByte b = true := by
  cases h
  case none => exact hs
  case timer => exact hs
  case timeout => exact hs
  case frame =>
    intro a b hb
    rw [encodeFrame_readClock_clearStartup_buf, read_encodeFrame_buf] at hb
    split at hb
    · cases hb
      exact cleanByte_frameByte _ _ a
    · exact hs a b hb

theorem frameInv_afterTick {T : Tag} {s : State} (h : FrameInv s) : FrameInv (afterTick T.instr s) := by
  obtain ⟨hbuf, htrace⟩ := h
  refine ⟨?_, fun e he => ?_⟩
  · rw [afterTick_buf]
    exact (preparation_prepare T.instr s).buf_clean hbuf
  · rw [afterTick_trace_eq_append_newEvents, List.mem_append] at he
    obtain hold | hnew := he
    · exact htrace e hold
    · refine Event.clean_of_queued ?_
      rintro hd tx q rfl
      exact cleanRecord_of_queued (operation_of_queue_event hnew).1

theorem frameInv_coldInit (rom : Rom) (n : Nat) : FrameInv (State.coldInit rom n) := by
  refine ⟨?_, ?_⟩
  · intro a b hb
    cases hb
  · intro e he
    cases he

/-! ## The obligations -/

/-- Settles O55: a tick writes to `BUF` the bytes of a frame, and the records it sends are the states' own; a reset
empties `BUF` and the trace, and an idle edge writes neither. -/
theorem stepKeepsFrameInv : Obligations.StepKeepsFrameInv := by
  intro s t h hstep
  obtain ⟨s₁, hl⟩ := step_next_latched s t hstep
  obtain ⟨i, rest, rfl⟩ := latchInput_ok s s₁ hl
  have hlatched : FrameInv (latch s i rest) := h
  rcases step_cases hl hstep with ⟨-, rfl⟩ | ⟨-, rfl | rfl⟩
  · exact frameInv_coldInit s.rom (s.tick + 1)
  · exact frameInv_afterTick hlatched
  · exact hlatched

/-- Settles O36: the closed form's byte, bit by bit. -/
theorem frameBits : Obligations.FrameBits := by
  intro s a ha
  obtain ⟨h0, h1, h7⟩ := frameByte_getLsbD_unused s.rom (frameInput s) a
  refine ⟨frameByte s.rom (frameInput s) a, by rw [read_encodeFrame_buf, if_pos ha], h0, h1, h7, ?_, ?_⟩
  · intro hne d
    rw [frameByte_getLsbD_digit, column_of_ne_segDp _ _ _ hne]
  · rintro rfl d hd
    rw [frameByte_getLsbD_digit, column_segDp_of_ne_zero _ _ hd]

/-- Settles O57: the state that queues a record is in the phase of the record's profile, and the invariant says that this
profile is attached. -/
theorem recordsUnderTheirProfile : Obligations.RecordsUnderTheirProfile := by
  intro s t h tx q hinv hexec he
  rw [eq_afterTick_of_exec hexec] at he
  obtain ⟨hop, rfl⟩ := operation_of_queue_event he
  have hattached := (hinv.outside_rendezvous (phaseProfile_of_queue hop).1).1
  refine ⟨rfl, ?_⟩
  rw [hattached]
  obtain ⟨hphase, k, rfl⟩ | ⟨hrefresh, rfl⟩ := queued_record hop
  · exact .inl ⟨rfl, hphase⟩
  · exact .inr ⟨rfl, by rw [hrefresh]; rfl⟩

end Sys2Proof.Machine
end

section
/-!
Control transfer (R102, R103): the tag registers in which a tick ends, and where its ending takes them (R107).
-/

namespace Sys2Proof.Machine

/-! ## The state in which a tick ends -/

/-- The tick prepared and its operation performed: what is left is its ending. -/
def performed (i : Instr) (s : State) : State :=
  perform (operation i (prepare i s)) (prepare i s)

theorem afterTick_eq_finish (i : Instr) (s : State) : afterTick i s = finish i (performed i s) := rfl

/-- Neither what a tick prepares nor its operation writes a tag (R102). -/
theorem Preparation.previous_next {i : Instr} {s p : State} (h : Preparation s i p) :
    p.previous = s.previous ∧ p.next = s.next := by
  cases h <;> simp

@[simp] theorem perform_previous (o : BusOp) (s : State) : (perform o s).previous = s.previous := by
  cases o <;> simp [perform]

@[simp] theorem performed_current (i : Instr) (s : State) : (performed i s).current = s.current := by
  simp [performed, (preparation_prepare i s).current]

@[simp] theorem performed_previous (i : Instr) (s : State) : (performed i s).previous = s.previous := by
  simp [performed, (preparation_prepare i s).previous_next]

@[simp] theorem performed_next (i : Instr) (s : State) : (performed i s).next = s.next := by
  simp [performed, (preparation_prepare i s).previous_next]

@[simp] theorem answeredOk_performed (i : Instr) (s : State) : answeredOk (performed i s) = answeredOk s := by
  simpa [performed, answeredOk] using (preparation_prepare i s).answers.1

theorem Preparation.rspValid {i : Instr} {s p : State} (h : Preparation s i p) :
    p.port.rspValid = s.port.rspValid := by
  cases h <;> simp [encodeFrame_port]

@[simp] theorem performed_rspValid (i : Instr) (s : State) : (performed i s).port.rspValid = s.port.rspValid := by
  simp [performed, (preparation_prepare i s).rspValid]

@[simp] theorem performed_startupInit_cfgSysDis (s : State) :
    (performed .cfgSysDis s).startupInit = s.startupInit := by
  simp [performed, prepare]

@[simp] theorem timedOut_performed_refresh (s : State) : timedOut (performed .refresh s) = timedOut s := by
  cases h : timedOut s <;> simp [performed, prepare, h]

/-! ## Where an ending goes -/

/-- How an ending leaves the tag registers: as they were; with `pc <- S` to a tag the rule of the instruction names, or
to the content of `next` (R102); or into the rendezvous with one of the nine tags of R23 as its link (R103). -/
inductive Transfer (i : Instr) (s t : State) : Prop where
  | stay (h : Remained s t) (hnext : t.next = s.next)
  | goto (S : Tag) (hS : S ∈ namedTargets i ∨ i = .waitDriverReady ∧ S = s.next) (h : Transferred s t S)
      (hnext : t.next = s.next)
  | rendezvous (hnamed : Tag.waitDriverReady ∈ namedTargets i) (h : Transferred s t .waitDriverReady)
      (hlink : rendezvousTarget t.next = true)

theorem transferred_goto (S : Tag) (s : State) : Transferred s (goto S s) S :=
  ⟨goto_current S s, goto_previous S s⟩

theorem transferred_waitThen (S : Tag) (s : State) : Transferred s (waitThen S s) .waitDriverReady :=
  ⟨waitThen_current S s, waitThen_previous S s⟩

theorem transfer_raiseFailure (i : Instr) (c : FailureCause) (s : State) : Transfer i s (raiseFailure c s) :=
  .stay ⟨rfl, rfl⟩ rfl

theorem transfer_goto {i : Instr} {S : Tag} (hS : S ∈ namedTargets i) (s : State) : Transfer i s (goto S s) :=
  .goto S (.inl hS) (transferred_goto S s) (goto_next S s)

theorem transfer_waitThen {i : Instr} {S : Tag} (hi : Tag.waitDriverReady ∈ namedTargets i)
    (hS : rendezvousTarget S = true) (s : State) : Transfer i s (waitThen S s) :=
  .rendezvous hi (transferred_waitThen S s) (by simpa using hS)

theorem Transfer.ite {i : Instr} {s t u : State} {c : Prop} [Decidable c] (ht : Transfer i s t)
    (hu : Transfer i s u) : Transfer i s (if c then t else u) := by
  split
  · exact ht
  · exact hu

theorem transfer_finish (i : Instr) (s : State) : Transfer i s (finish i s) := by
  have hstay : Transfer i s s := .stay ⟨rfl, rfl⟩ rfl
  cases i
  case initPeripheral | setCfgProtocolFormat | cancelCfgProtocolFormat | setWriteProtocolFormat | cancelCfgOffMode =>
    exact .ite (transfer_goto (by decide) s) (transfer_raiseFailure _ _ s)
  case prepareReinit =>
    exact .ite (transfer_goto (by decide) s)
      (.rendezvous (by decide) (transferred_waitThen _ (raiseFailure _ s))
        (congrArg rendezvousTarget (waitThen_next _ _)))
  case cfgSysDis => exact .ite (transfer_waitThen (by decide) rfl s) (transfer_goto (by decide) s)
  case refresh => exact .ite (transfer_goto (by decide) s) (transfer_waitThen (by decide) rfl s)
  case waitDriverReady =>
    exact .ite (.goto s.next (.inr ⟨rfl, rfl⟩) (transferred_goto s.next s) (goto_next s.next s)) hstay
  case cfgComOption | cfgMasterMode | cfgSysOn | cfgPwmMode | cfgBlinkMode | cfgLedOn =>
    exact transfer_waitThen (by decide) rfl s
  all_goals exact hstay

theorem transfer_afterTick (i : Instr) (s : State) : Transfer i s (afterTick i s) := by
  rw [afterTick_eq_finish]
  obtain ⟨h, hn⟩ | ⟨S, hS, h, hn⟩ | ⟨hi, h, hn⟩ := transfer_finish i (performed i s)
  · exact .stay (by simpa [Remained] using h) (by simpa using hn)
  · exact .goto S (by simpa using hS) (by simpa [Transferred] using h) (by simpa using hn)
  · exact .rendezvous hi (by simpa [Transferred] using h) hn

/-! ## The table of R107 -/

theorem timedOut_iff (s : State) : timedOut s = true ↔ 5000000#64 ≤ s.port.nowUs - s.refreshPeriodStart :=
  decide_eq_true_iff

/-- The endings of the sixteen states, row by row. -/
theorem afterTick_current_next (s : State) :
    (afterTick s.current.instr s).current = transition s ∧ (afterTick s.current.instr s).next = linkAfter s := by
  rw [afterTick_eq_finish]
  have hanswer : answeredOk s = s.port.rspOk := rfl
  unfold transition linkAfter
  cases hcur : s.current
  case waitDriverReady => cases hv : s.port.rspValid <;> simp [Tag.instr, finish, hv, hcur]
  case cfgSysDis => cases hf : s.startupInit <;> simp [Tag.instr, finish, hf]
  case refresh =>
    simp only [← timedOut_iff, Tag.instr, finish, timedOut_performed_refresh]
    cases timedOut s <;> simp
  case initPeripheral | setCfgProtocolFormat | cancelCfgProtocolFormat | setWriteProtocolFormat | prepareReinit |
      cancelCfgOffMode =>
    cases hok : s.port.rspOk <;> simp [Tag.instr, finish, hanswer, hok, hcur]
  all_goals simp [Tag.instr, finish, hcur]

/-! ## The obligations -/

/-- Settles O9: the word in `current` decodes to its tag's instruction alone, and an enabled edge runs that. -/
theorem stepRunsDecodedInstruction : Obligations.StepRunsDecodedInstruction := by
  intro s s₁ i hl hr he hd
  obtain rfl : s₁.current.instr = i := Except.ok.inj ((decode_encodeState s₁.current).symm.trans hd)
  rw [step_of_tick hl hr he, exec_eq_afterTick]

/-- Settles O16: the endings of the sixteen states are the rows of the table. -/
theorem transitionRelation : Obligations.TransitionRelation := by
  intro s t h
  rw [eq_afterTick_of_exec h]
  exact afterTick_current_next s

/-- Settles O45: a transfer to another tag saves the old one, and goes to a named tag or, in the rendezvous, to `next`.
-/
theorem previousFollowsCurrent : Obligations.PreviousFollowsCurrent := by
  intro i s t h
  rw [eq_afterTick_of_exec h]
  obtain ⟨⟨hc, hp⟩, -⟩ | ⟨S, hS, ⟨hc, hp⟩, -⟩ | ⟨hnamed, ⟨hc, hp⟩, -⟩ := transfer_afterTick i s
  · exact ⟨by rw [hp, if_pos hc], .inl hc⟩
  · rw [hc]
    exact ⟨hp, .inr hS⟩
  · rw [hc]
    exact ⟨hp, .inr (.inl hnamed)⟩

/-- Settles O46: `next` changes in the third kind of transfer alone; and the rendezvous goes to `next` or stays. -/
theorem rendezvousLink : Obligations.RendezvousLink := by
  refine ⟨fun S s => ⟨waitThen_next S s, waitThen_current S s⟩, ?_, ?_⟩
  · intro i s t h hne
    rw [eq_afterTick_of_exec h] at hne ⊢
    obtain ⟨-, hn⟩ | ⟨S, -, -, hn⟩ | ⟨-, ⟨hc, -⟩, hlink⟩ := transfer_afterTick i s
    · exact absurd hn hne
    · exact absurd hn hne
    · exact ⟨hc, hlink⟩
  · intro s t h
    rw [eq_afterTick_of_exec h, afterTick_eq_finish]
    cases hv : s.port.rspValid <;> simp [finish, hv]

end Sys2Proof.Machine
end

section
/-!
The events of a tick (R101, R106): at most one clock read, the events of its one bus operation, and the failure that a
transport state logs when its operation is answered error.
-/

namespace Sys2Proof.Machine

/-! ## The logged failure -/

/-- The sub-cause that a transport state raises (R161). -/
def setupFailure : Instr → Option FailureCause
  | .initPeripheral => some .busInit
  | .setCfgProtocolFormat => some .attachConfig
  | .setWriteProtocolFormat => some .attachRefresh
  | .cancelCfgProtocolFormat => some .detachConfig
  | .prepareReinit => some .detachRefresh
  | .cancelCfgOffMode => some .detachOff
  | _ => none

/-- The failure that a tick logs: that of its state, where its operation is answered error (R106, R160). -/
def failureLog (i : Instr) (s : State) : List Event :=
  match setupFailure i with
  | some c => if answeredOk s then [] else [.log c.cls s.current]
  | none => []

theorem finish_trace (i : Instr) (s : State) : (finish i s).trace = s.trace ++ failureLog i s := by
  cases i
  case initPeripheral | setCfgProtocolFormat | setWriteProtocolFormat | cancelCfgProtocolFormat | prepareReinit |
      cancelCfgOffMode =>
    cases hok : answeredOk s <;> simp [finish, failureLog, setupFailure, hok]
  case cfgSysDis => cases hf : s.startupInit <;> simp [finish, failureLog, setupFailure, hf]
  case refresh => cases hw : timedOut s <;> simp [finish, failureLog, setupFailure, hw]
  case waitDriverReady => cases hv : s.port.rspValid <;> simp [finish, failureLog, setupFailure, hv]
  all_goals simp [finish, failureLog, setupFailure]

@[simp] theorem failureLog_performed (i : Instr) (s : State) : failureLog i (performed i s) = failureLog i s := by
  simp [failureLog]

theorem failureLog_eq (i : Instr) (s : State) :
    failureLog i s = []
      ∨ ∃ c, setupFailure i = some c ∧ answeredOk s = false ∧ failureLog i s = [.log c.cls s.current] := by
  unfold failureLog
  cases setupFailure i with
  | none => exact .inl rfl
  | some c => cases hok : answeredOk s <;> simp

/-- The class of the sub-cause is that of the operation whose answer was error (R161). -/
theorem cls_of_setupFailure {i : Instr} {c : FailureCause} (h : setupFailure i = some c) :
    i = .initPeripheral ∧ c.cls = .busInit
      ∨ (i = .setCfgProtocolFormat ∨ i = .setWriteProtocolFormat) ∧ c.cls = .attach
      ∨ (i = .cancelCfgProtocolFormat ∨ i = .prepareReinit ∨ i = .cancelCfgOffMode) ∧ c.cls = .detach := by
  cases i
  case initPeripheral =>
    cases h
    exact .inl ⟨rfl, rfl⟩
  case setCfgProtocolFormat | setWriteProtocolFormat =>
    cases h
    exact .inr (.inl ⟨by simp, rfl⟩)
  case cancelCfgProtocolFormat | prepareReinit | cancelCfgOffMode =>
    cases h
    exact .inr (.inr ⟨by simp, rfl⟩)
  all_goals cases h

/-! ## The events of the operation -/

/-- The events of a tick's bus operation: a pending AwaitResult was issued when the hold began (R131). -/
def operationEvents (i : Instr) (s : State) : List Event :=
  if operation i (prepare i s) = .await ∧ s.held = true then []
  else (operation i (prepare i s)).events (prepare i s)

/-- Each operation but NONE is one event (R40, R101). -/
theorem BusOp.events_length (o : BusOp) (s : State) : (o.events s).length ≤ 1 := by
  cases o <;> simp [BusOp.events]

@[simp] theorem BusOp.filter_isBusOperation_events (o : BusOp) (s : State) :
    (o.events s).filter Event.isBusOperation = o.events s := by cases o <;> rfl

@[simp] theorem BusOp.filter_isClockRead_events (o : BusOp) (s : State) :
    (o.events s).filter Event.isClockRead = [] := by cases o <;> rfl

@[simp] theorem BusOp.filter_isLog_events (o : BusOp) (s : State) :
    (o.events s).filter Event.isLog = [] := by cases o <;> rfl

theorem operationEvents_length (i : Instr) (s : State) : (operationEvents i s).length ≤ 1 := by
  unfold operationEvents
  split
  · simp
  · exact BusOp.events_length _ _

/-! ## The events of a tick -/

theorem newEvents_afterTick (i : Instr) (s : State) :
    ∃ cs, newEvents s (afterTick i s) = cs ++ operationEvents i s ++ failureLog i s
      ∧ (cs = [] ∨ cs = [.nowMicros (now s)]) := by
  have hp := preparation_prepare i s
  obtain ⟨cs, hcs, hclock⟩ := hp.trace
  refine ⟨cs, newEvents_of_append ?_, hclock⟩
  rw [afterTick_eq_finish, finish_trace, failureLog_performed, performed, perform_trace, hcs, hp.held]
  simp [operationEvents]

/-- The events of a tick, class by class: one operation, at most one clock read, at most one log. -/
theorem filter_newEvents_afterTick (i : Instr) (s : State) :
    (newEvents s (afterTick i s)).filter Event.isBusOperation = operationEvents i s
      ∧ ((newEvents s (afterTick i s)).filter Event.isClockRead).length ≤ 1
      ∧ (newEvents s (afterTick i s)).filter Event.isLog = failureLog i s := by
  obtain ⟨cs, hes, hcs⟩ := newEvents_afterTick i s
  have hop : (operationEvents i s).filter Event.isBusOperation = operationEvents i s
      ∧ (operationEvents i s).filter Event.isClockRead = [] ∧ (operationEvents i s).filter Event.isLog = [] := by
    unfold operationEvents
    split <;> simp
  have hlog : (failureLog i s).filter Event.isBusOperation = [] ∧ (failureLog i s).filter Event.isClockRead = []
      ∧ (failureLog i s).filter Event.isLog = failureLog i s := by
    obtain hno | ⟨c, -, -, hone⟩ := failureLog_eq i s
    · simp [hno]
    · simp [hone, Event.isBusOperation, Event.isClockRead, Event.isLog]
  have hclock : cs.filter Event.isBusOperation = [] ∧ (cs.filter Event.isClockRead).length ≤ 1
      ∧ cs.filter Event.isLog = [] := by
    obtain rfl | rfl := hcs
    · exact ⟨rfl, Nat.zero_le 1, rfl⟩
    · exact ⟨rfl, Nat.le_refl 1, rfl⟩
  simp [hes, hop, hlog, hclock]

/-- A skipped command, a REFRESH past the window and OFF_MODE present NONE (R101). -/
theorem operationEvents_eq_nil {i : Instr} {s : State}
    (h : i = .cfgSysDis ∧ s.startupInit = false ∨ i = .refresh ∧ timedOut s = true ∨ i = .offMode) :
    operationEvents i s = [] := by
  have hnone : operation i (prepare i s) = .none := by
    obtain ⟨rfl, hflag⟩ | ⟨rfl, hw⟩ | rfl := h
    · simp [operation, prepare, hflag]
    · simp [operation, prepare_refresh_timedOut s hw, hw]
    · rfl
  simp [operationEvents, hnone, BusOp.events]

/-! ## The obligations -/

/-- Settles O15: the operation of a tick is at most one event, its preparation at most one clock read, and the silent
ticks present NONE. -/
theorem oneBusOperationPerTick : Obligations.OneBusOperationPerTick := by
  intro i s t h
  rw [eq_afterTick_of_exec h]
  obtain ⟨hops, hclock, -⟩ := filter_newEvents_afterTick i s
  refine ⟨newEvents s (afterTick i s), afterTick_trace_eq_append_newEvents i s, ?_, hclock, fun hsilent => ?_⟩
  · rw [hops]
    exact operationEvents_length i s
  · rw [← timedOut_eq_true_iff] at hsilent
    rw [hops, operationEvents_eq_nil hsilent]

/-- Settles O52: a tick's logs are the failure of its transport state, which is logged on an error alone. -/
theorem logOnlyOnTransportFailure : Obligations.LogOnlyOnTransportFailure := by
  intro i s t h
  rw [eq_afterTick_of_exec h]
  obtain ⟨-, -, hlogs⟩ := filter_newEvents_afterTick i s
  have hmem : ∀ cls tag, Event.log cls tag ∈ newEvents s (afterTick i s) → Event.log cls tag ∈ failureLog i s :=
    fun cls tag he => hlogs ▸ List.mem_filter.2 ⟨he, rfl⟩
  rw [hlogs]
  obtain hno | ⟨c, hc, herror, hone⟩ := failureLog_eq i s
  · rw [hno] at hmem ⊢
    exact ⟨by simp, fun cls tag he => absurd (hmem cls tag he) List.not_mem_nil⟩
  · rw [hone] at hmem ⊢
    refine ⟨by simp, fun cls tag he => ?_⟩
    obtain ⟨rfl, rfl⟩ := Event.log.inj (List.mem_singleton.1 (hmem cls tag he))
    exact ⟨herror, rfl, cls_of_setupFailure hc⟩

end Sys2Proof.Machine
end

section
/-!
Answers that are not examined (R105, R130, R131, D8, D9): a state that queues or waits does the same with either answer,
but for the count of what is outstanding.
-/

namespace Sys2Proof.Machine

/-- The state with another answer on the port and another count of outstanding transactions. -/
def withAnswer (b : Bool) (n : Nat) (s : State) : State :=
  { s with outstanding := n, port := { s.port with rspOk := b } }

@[simp] theorem withAnswer_startupInit (b : Bool) (n : Nat) (s : State) :
    (withAnswer b n s).startupInit = s.startupInit := rfl
@[simp] theorem withAnswer_rspValid (b : Bool) (n : Nat) (s : State) :
    (withAnswer b n s).port.rspValid = s.port.rspValid := rfl
@[simp] theorem withAnswer_next (b : Bool) (n : Nat) (s : State) : (withAnswer b n s).next = s.next := rfl
@[simp] theorem timedOut_withAnswer (b : Bool) (n : Nat) (s : State) : timedOut (withAnswer b n s) = timedOut s := rfl

@[simp] theorem goto_withAnswer (S : Tag) (b : Bool) (n : Nat) (s : State) :
    goto S (withAnswer b n s) = withAnswer b n (goto S s) := by
  unfold goto
  rw [apply_ite (withAnswer b n)]
  rfl

@[simp] theorem waitThen_withAnswer (S : Tag) (b : Bool) (n : Nat) (s : State) :
    waitThen S (withAnswer b n s) = withAnswer b n (waitThen S s) :=
  goto_withAnswer .waitDriverReady b n { s with next := S }

theorem eraseFrame_withAnswer (b : Bool) (n : Nat) (s : State) :
    eraseFrame (withAnswer b n s) = withAnswer b n (eraseFrame s) := rfl

theorem encodeDigit_withAnswer (d : Fin 5) (b : Bool) (n : Nat) (s : State) :
    encodeDigit d (withAnswer b n s) = ((encodeDigit d s).1, withAnswer b n (encodeDigit d s).2) := rfl

theorem encodeSharedBit_withAnswer (D0 : DisplayDigit) (b : Bool) (n : Nat) (s : State) :
    encodeSharedBit D0 (withAnswer b n s) = withAnswer b n (encodeSharedBit D0 s) := rfl

/-- The Encoder looks at no answer (R141). -/
theorem encodeFrame_withAnswer (b : Bool) (n : Nat) (s : State) :
    encodeFrame (withAnswer b n s) = withAnswer b n (encodeFrame s) := by
  simp only [encodeFrame, eraseFrame_withAnswer, encodeDigit_withAnswer, encodeSharedBit_withAnswer]

theorem readClock_clearStartup_withAnswer (b : Bool) (n : Nat) (s : State) :
    readClock (clearStartup (withAnswer b n s)) = withAnswer b n (readClock (clearStartup s)) := rfl

theorem prepare_withAnswer (i : Instr) (b : Bool) (n : Nat) (s : State) :
    prepare i (withAnswer b n s) = withAnswer b n (prepare i s) := by
  cases i
  case refresh =>
    simp only [prepare, readClock_clearStartup_withAnswer, encodeFrame_withAnswer, timedOut_withAnswer,
      apply_ite (withAnswer b n)]
  all_goals rfl

theorem operation_withAnswer (i : Instr) (b : Bool) (n : Nat) (s : State) :
    operation i (withAnswer b n s) = operation i s := by
  cases i <;> rfl

/-- Only an operation that sets the transport up does anything with its answer but count it (R104). -/
theorem perform_withAnswer {o : BusOp} (ho : ¬ SetsUp o) (b : Bool) (n : Nat) (s : State) :
    ∃ m, perform o (withAnswer b n s) = withAnswer b m (perform o s) := by
  cases o
  case none => exact ⟨n, rfl⟩
  case queue tx => simp only [perform, queueTransaction_eq]; exact ⟨_, rfl⟩
  case await => simp only [perform, awaitResult_eq]; exact ⟨_, rfl⟩
  case busInit => exact absurd .busInit ho
  case attach p => exact absurd (.attach p) ho
  case detach => exact absurd .detach ho

/-- Only the transport states decide by the answer where they go (R107). -/
theorem finish_withAnswer {i : Instr} (hi : setupFailure i = none) (b : Bool) (n : Nat) (s : State) :
    finish i (withAnswer b n s) = withAnswer b n (finish i s) := by
  cases i
  case initPeripheral | setCfgProtocolFormat | setWriteProtocolFormat | cancelCfgProtocolFormat | prepareReinit |
      cancelCfgOffMode => cases hi
  all_goals simp [finish, apply_ite (withAnswer b n)]

theorem afterTick_withAnswer {i : Instr} (hi : setupFailure i = none) {s : State}
    (ho : ¬ SetsUp (operation i (prepare i s))) (b : Bool) (n : Nat) :
    ∃ m, afterTick i (withAnswer b n s) = withAnswer b m (afterTick i s) := by
  obtain ⟨m, hm⟩ := perform_withAnswer ho b n (prepare i s)
  exact ⟨m, by rw [afterTick, prepare_withAnswer, operation_withAnswer, hm, finish_withAnswer hi, afterTick]⟩

/-- The states that queue or wait set nothing up. -/
theorem not_setsUp_operation {i : Instr}
    (hi : i ∈ [Instr.cfgSysDis, .cfgComOption, .cfgMasterMode, .cfgSysOn, .cfgPwmMode, .cfgBlinkMode, .cfgLedOn,
      .refresh, .waitDriverReady]) (s : State) : setupFailure i = none ∧ ¬ SetsUp (operation i s) := by
  cases i
  case cfgSysDis | refresh =>
    refine ⟨rfl, ?_⟩
    simp only [operation]
    split <;> nofun
  case cfgComOption | cfgMasterMode | cfgSysOn | cfgPwmMode | cfgBlinkMode | cfgLedOn | waitDriverReady =>
    exact ⟨rfl, nofun⟩
  all_goals simp at hi

theorem afterTick_waitDriverReady_outstanding (s : State) :
    (afterTick .waitDriverReady s).outstanding = if s.port.rspValid then s.outstanding - 1 else s.outstanding := by
  cases hv : s.port.rspValid <;> simp [afterTick, prepare, operation, perform, finish, hv]

/-- Settles O34: the answer reaches neither what these states prepare nor how they end, and their operation counts it. -/
theorem answersNotExamined : Obligations.AnswersNotExamined := by
  intro i s t t' b hi h h'
  obtain ⟨hfail, hop⟩ := not_setsUp_operation hi (prepare i s)
  obtain ⟨m, hm⟩ := afterTick_withAnswer hfail hop b s.outstanding
  have ht' : t' = afterTick i (withAnswer b s.outstanding s) := eq_afterTick_of_exec h'
  rw [eq_afterTick_of_exec h]
  refine ⟨?_, ?_⟩
  · rw [ht', hm]
    rfl
  · rintro rfl
    rw [ht', afterTick_waitDriverReady_outstanding, afterTick_waitDriverReady_outstanding]
    rfl

end Sys2Proof.Machine
end

section
/-!
The cold boot (R108, R194): with every answer ok the block goes through the two attaches, the seven commands, each with
its rendezvous, and the detach between them, up to REFRESH.
-/

namespace Sys2Proof.Machine

/-! ## Runs -/

theorem run_of_step {s t : State} (h : step s = .next t) : Host.Core.run core 1 s = .next t := by
  simp [Host.Core.run, core, h]

theorem run_trans {m n : Nat} {s t u : State} (hfirst : Host.Core.run core m s = .next t)
    (hthen : Host.Core.run core n t = .next u) : Host.Core.run core (m + n) s = .next u := by
  induction m generalizing s with
  | zero =>
    cases hfirst
    rwa [Nat.zero_add]
  | succ m ih =>
    rw [Nat.succ_add]
    simp only [Host.Core.run] at hfirst ⊢
    cases hs : core.step s <;> simp only [hs] at hfirst ⊢
    · exact ih hfirst
    · cases hfirst
    · cases hfirst

/-! ## What a tick leaves of the hold and the handle -/

theorem Ending.held {s t : State} (h : Ending s t) : t.held = s.held := by cases h <;> simp

/-- Only an AwaitResult that does not return begins a hold (R131). -/
theorem afterTick_held_of_returned (i : Instr) {s : State} (hheld : s.held = false) (hvalid : s.port.rspValid = true) :
    (afterTick i s).held = false := by
  have hp := preparation_prepare i s
  rw [afterTick, (ending_finish i _).held]
  cases operation i (prepare i s) <;> simp [perform, hp.held, hp.rspValid, hheld, hvalid]

theorem operationEvents_of_not_held (i : Instr) {s : State} (hheld : s.held = false) :
    operationEvents i s = (operation i (prepare i s)).events s := by
  have hp := preparation_prepare i s
  simp only [operationEvents, hheld, reduceCtorEq, and_false, if_false]
  cases operation i (prepare i s) <;> simp [BusOp.events, hp.rom, hp.handle]

/-! ## One tick of the boot -/

/-- The state after the rendezvous of a command (R121 to R127). -/
def afterCommand : CfgCommand → Tag
  | .sysDis => .cfgComOption
  | .comOption => .cfgMasterMode
  | .masterMode => .cfgSysOn
  | .sysOn => .cfgPwmMode
  | .pwmDuty => .cfgBlinkMode
  | .blinkOff => .cfgLedOn
  | .ledOn => .cancelCfgProtocolFormat

/-- The block on its way through the cold boot: the tag, the handle, the operations issued so far, and the number of
edges still to come, all of them enabled and answered ok. -/
structure Booting (rom : Rom) (edges : Nat) (tag : Tag) (handle : Option Handle) (ops : List Event) (s : State) :
    Prop where
  rom_eq : s.rom = rom
  current_eq : s.current = tag
  handle_eq : s.handle = handle
  startup : s.startupInit = true
  not_held : s.held = false
  issued : s.trace.filter Event.isBusOperation = ops
  edges_left : s.scenario.length = edges
  edges_ok : ∀ i ∈ s.scenario, okEdge rom i = true

namespace Booting

variable {rom : Rom} {n : Nat} {T : Tag} {hd : Option Handle} {ops : List Event} {s : State}

/-- The next edge is a tick whose operation is answered ok. -/
theorem step_next (h : Booting rom (n + 1) T hd ops s) :
    ∃ s₁, step s = .next (settle (afterTick s₁.current.instr s₁)) ∧ Booting rom n T hd ops s₁ ∧ s₁.next = s.next
      ∧ s₁.port.rspOk = true ∧ s₁.port.rspValid = true := by
  obtain ⟨i, rest, hs⟩ := List.exists_cons_of_length_eq_add_one h.edges_left
  have hi : okEdge rom i = true := h.edges_ok i (by simp [hs])
  simp only [okEdge, plainEdge, Bool.and_eq_true, Bool.not_eq_true', Option.isNone_iff_eq_none] at hi
  obtain ⟨⟨⟨⟨hrst, hmoves⟩, htick⟩, hvalid⟩, hok⟩ := hi
  have hl := latchInput_cons_existing s i rest hs (h.rom_eq ▸ hmoves)
  have hrest : rest.length = n := by simpa [hs] using h.edges_left
  have hall : ∀ j ∈ rest, okEdge rom j = true := fun j hj => h.edges_ok j (by simp [hs, hj])
  exact ⟨latch s i rest, step_of_tick hl hrst htick, { h with edges_left := hrest, edges_ok := hall }, rfl, hok, hvalid⟩

/-- A tick before REFRESH keeps the boot going: the tag by the table of R107, the operation with its events. -/
theorem tick (h : Booting rom n T hd ops s) (hT : T ≠ .refresh) (hvalid : s.port.rspValid = true) :
    Booting rom n (transition s) (afterTick s.current.instr s).handle
      (ops ++ (operation s.current.instr (prepare s.current.instr s)).events s)
      (settle (afterTick s.current.instr s)) where
  rom_eq := (afterTick_rom _ s).trans h.rom_eq
  current_eq := (afterTick_current_next s).1
  handle_eq := rfl
  startup := by
    have hi : s.current.instr ≠ .refresh := by
      rw [h.current_eq]
      cases T <;> simp_all [Tag.instr]
    simp [afterTick_startupInit, hi, h.startup]
  not_held := afterTick_held_of_returned _ h.not_held hvalid
  issued := by
    rw [settle_trace, afterTick_trace_eq_append_newEvents, List.filter_append, h.issued,
      (filter_newEvents_afterTick _ s).1, operationEvents_of_not_held _ h.not_held]
  edges_left := (congrArg List.length (afterTick_scenario _ s)).trans h.edges_left
  edges_ok := by
    rw [settle_scenario, afterTick_scenario]
    exact h.edges_ok

/-! ## The operations of the boot -/

theorem busInit (h : Booting rom (n + 1) .initPeripheral hd ops s) :
    ∃ t, step s = .next t ∧ Booting rom n .setCfgProtocolFormat hd (ops ++ [.busInitialize rom.val.busCfg]) t := by
  obtain ⟨s₁, hstep, h₁, -, hok, hvalid⟩ := h.step_next
  refine ⟨_, hstep, ?_⟩
  simpa [h₁.current_eq, transition, hok, Tag.instr, prepare, operation, perform, BusOp.events, afterTick_handle,
    h₁.handle_eq, h₁.rom_eq] using h₁.tick (by decide) hvalid

/-- A state that attaches goes on to S with a handle of its profile (R111, R113). -/
theorem attach {p : Profile} {S : Tag} (h : Booting rom (n + 1) T hd ops s) (hT : T ≠ .refresh)
    (hop : ∀ u, operation T.instr u = .attach p)
    (hS : ∀ u, u.current = T → u.port.rspOk = true → transition u = S) :
    ∃ t token, step s = .next t ∧ Booting rom n S (some ⟨p, token⟩) (ops ++ [.attachDevice p]) t := by
  obtain ⟨s₁, hstep, h₁, -, hok, hvalid⟩ := h.step_next
  refine ⟨_, s₁.port.token, hstep, ?_⟩
  have hanswers := (preparation_prepare T.instr s₁).answers
  simpa [h₁.current_eq, hS s₁ h₁.current_eq hok, hop, perform, BusOp.events, afterTick_handle, answeredOk, hanswers,
    hok] using h₁.tick hT hvalid

theorem detachConfig (h : Booting rom (n + 1) .cancelCfgProtocolFormat hd ops s) :
    ∃ t, step s = .next t ∧ Booting rom n .setWriteProtocolFormat none (ops ++ [.detachDevice hd]) t := by
  obtain ⟨s₁, hstep, h₁, -, hok, hvalid⟩ := h.step_next
  refine ⟨_, hstep, ?_⟩
  simpa [h₁.current_eq, transition, hok, Tag.instr, prepare, operation, perform, BusOp.events, afterTick_handle,
    answeredOk, h₁.handle_eq] using h₁.tick (by decide) hvalid

/-- The rendezvous returns to what `next` holds (R131). -/
theorem wait (h : Booting rom (n + 1) .waitDriverReady hd ops s) :
    ∃ t, step s = .next t ∧ Booting rom n s.next hd (ops ++ [.awaitResult hd]) t := by
  obtain ⟨s₁, hstep, h₁, hnext, -, hvalid⟩ := h.step_next
  refine ⟨_, hstep, ?_⟩
  simpa [h₁.current_eq, transition, hvalid, hnext, Tag.instr, prepare, operation, perform, BusOp.events, afterTick_handle,
    h₁.handle_eq] using h₁.tick (by decide) hvalid

theorem send {k : CfgCommand} {h : Handle} (hs : Booting rom (n + 1) (commandSender k) (some h) ops s) :
    ∃ t, step s = .next t ∧ t.next = afterCommand k
      ∧ Booting rom n .waitDriverReady (some h) (ops ++ [commandEvent rom h k]) t := by
  obtain ⟨s₁, hstep, h₁, -, -, hvalid⟩ := hs.step_next
  have htick := h₁.tick (by cases k <;> decide) hvalid
  refine ⟨_, hstep, ?_, ?_⟩
  · rw [settle_next, (afterTick_current_next s₁).2]
    cases k <;> simp [linkAfter, h₁.current_eq, commandSender, afterCommand, h₁.startup]
  · have hop : operation s₁.current.instr (prepare s₁.current.instr s₁) = .queue (cfgtx rom k) := by
      rw [h₁.current_eq]
      cases k <;> simp [commandSender, Tag.instr, operation, prepare, h₁.startup, h₁.rom_eq]
    have hwait : transition s₁ = .waitDriverReady := by
      cases k <;> simp [transition, h₁.current_eq, commandSender, h₁.startup]
    rw [hop, hwait, afterTick_handle, hop] at htick
    have hevent : (BusOp.queue (cfgtx rom k)).events s₁ = [commandEvent rom h k] := by
      rw [BusOp.events, h₁.handle_eq, h₁.rom_eq]
      rfl
    simpa [perform, (preparation_prepare _ s₁).handle, h₁.handle_eq, hevent] using htick

/-- A command and its rendezvous (R105, R131). -/
theorem command (k : CfgCommand) {h : Handle} (hs : Booting rom (n + 2) (commandSender k) (some h) ops s) :
    ∃ t, Host.Core.run core 2 s = .next t
      ∧ Booting rom n (afterCommand k) (some h) (ops ++ [commandEvent rom h k, .awaitResult (some h)]) t := by
  obtain ⟨u, hsend, hnext, hu⟩ := hs.send
  obtain ⟨t, hwait, ht⟩ := hu.wait
  refine ⟨t, run_trans (run_of_step hsend) (run_of_step hwait), ?_⟩
  simpa [hnext] using ht

end Booting

/-- Settles O27: eighteen ticks of the boot, the seven commands each with its rendezvous. -/
theorem coldBootOrder : Obligations.ColdBootOrder := by
  intro edges s hcur hflag hheld htrace hscenario hlength hok
  have hstart : Booting s.rom 18 .initPeripheral s.handle [] s :=
    ⟨rfl, hcur, rfl, hflag, hheld, by rw [htrace]; rfl, by rw [hscenario, hlength], by rwa [hscenario]⟩
  obtain ⟨s₁, r₁, h₁⟩ := hstart.busInit
  obtain ⟨s₂, token, r₂, h₂⟩ := h₁.attach (S := .cfgSysDis) (by decide) (fun _ => rfl)
    fun _ hcur hok => by simp [transition, hcur, hok]
  obtain ⟨s₃, r₃, h₃⟩ := h₂.command .sysDis
  obtain ⟨s₄, r₄, h₄⟩ := h₃.command .comOption
  obtain ⟨s₅, r₅, h₅⟩ := h₄.command .masterMode
  obtain ⟨s₆, r₆, h₆⟩ := h₅.command .sysOn
  obtain ⟨s₇, r₇, h₇⟩ := h₆.command .pwmDuty
  obtain ⟨s₈, r₈, h₈⟩ := h₇.command .blinkOff
  obtain ⟨s₉, r₉, h₉⟩ := h₈.command .ledOn
  obtain ⟨s₁₀, r₁₀, h₁₀⟩ := h₉.detachConfig
  obtain ⟨t, token', r, h⟩ := h₁₀.attach (S := .refresh) (by decide) (fun _ => rfl)
    fun _ hcur hok => by simp [transition, hcur, hok]
  have hrun := run_trans (run_of_step r₁) <| run_trans (run_of_step r₂) <| run_trans r₃ <| run_trans r₄ <|
    run_trans r₅ <| run_trans r₆ <| run_trans r₇ <| run_trans r₈ <| run_trans r₉ <|
    run_trans (run_of_step r₁₀) (run_of_step r)
  refine ⟨t, ⟨.config, token⟩, hrun, h.current_eq, ?_, rfl, h.issued⟩
  rw [attachedProfile, h.handle_eq]
  rfl

end Sys2Proof.Machine
end

section
/-!
The transport states (R110 to R116): the next state of a tick for either answer, and that OFF_MODE is never left without
a reset.
-/

namespace Sys2Proof.Machine

/-! ## A set-up operation and what its answer leads to -/

theorem goto_of_ne {S : Tag} {s : State} (h : S ≠ s.current) :
    goto S s = { s with current := S, previous := s.current } :=
  if_neg h

theorem goto_attachDevice {p : Profile} {S : Tag} {s : State} (hS : S ≠ s.current) (hok : s.port.rspOk = true) :
    goto S (attachDevice p s)
      = { s with
          current := S, previous := s.current, handle := some ⟨p, s.port.token⟩
          out := barePorts 2#3 p.code s.current
          trace := s.trace ++ [.attachDevice p] } := by
  rw [attachDevice_eq, if_pos hok]
  exact goto_of_ne hS

theorem raiseFailure_attachDevice {p : Profile} (c : FailureCause) {s : State} (herr : s.port.rspOk = false) :
    raiseFailure c (attachDevice p s)
      = { s with
          out := failedPorts 2#3 p.code c.cls.code s.current
          trace := s.trace ++ [.attachDevice p, .log c.cls s.current] } := by
  simp [attachDevice_eq, herr, raiseFailure, failedPorts]

theorem goto_detachDevice {S : Tag} {s : State} (hS : S ≠ s.current) (hok : s.port.rspOk = true) :
    goto S (detachDevice s)
      = { s with
          current := S, previous := s.current, handle := none
          out := barePorts 3#3 0#1 s.current
          trace := s.trace ++ [.detachDevice s.handle] } := by
  rw [detachDevice_eq, if_pos hok]
  exact goto_of_ne hS

theorem raiseFailure_detachDevice (c : FailureCause) {s : State} (herr : s.port.rspOk = false) :
    raiseFailure c (detachDevice s)
      = { s with
          out := failedPorts 3#3 0#1 c.cls.code s.current
          trace := s.trace ++ [.detachDevice s.handle, .log c.cls s.current] } := by
  simp [detachDevice_eq, herr, raiseFailure, failedPorts]

theorem startPeriod_readClock_eq (s : State) :
    startPeriod (readClock s)
      = { s with refreshPeriodStart := s.port.nowUs, trace := s.trace ++ [.nowMicros s.port.nowUs] } :=
  rfl

/-! ## The obligations of a tick -/

/-- Settles O17: ok marks the peripheral initialised and goes on, error logs the failure and stays. -/
theorem initPeripheralTick : Obligations.InitPeripheralTick := by
  intro s hs
  refine ⟨fun hok => ?_, fun herr => ?_⟩
  · simp [exec, execInitPeripheral, answeredOk, hok, busInitialize_eq, goto_of_ne, hs]
  · simp [exec, execInitPeripheral, answeredOk, herr, busInitialize_eq, raiseFailure, failedPorts, hs,
      FailureCause.cls, LogClass.code]

/-- Settles O18: an attach under the config profile. -/
theorem setCfgProtocolFormatTick : Obligations.SetCfgProtocolFormatTick := by
  intro s hs
  refine ⟨fun hok => ?_, fun herr => ?_⟩
  · simp [exec, execSetCfgProtocolFormat, answeredOk, hok, goto_attachDevice, hs, Profile.code]
  · simp [exec, execSetCfgProtocolFormat, answeredOk, herr, raiseFailure_attachDevice, hs, Profile.code,
      FailureCause.cls, LogClass.code]

/-- Settles O19: a detach. -/
theorem cancelCfgProtocolFormatTick : Obligations.CancelCfgProtocolFormatTick := by
  intro s hs
  refine ⟨fun hok => ?_, fun herr => ?_⟩
  · simp [exec, execCancelCfgProtocolFormat, answeredOk, hok, goto_detachDevice, hs]
  · simp [exec, execCancelCfgProtocolFormat, answeredOk, herr, raiseFailure_detachDevice, hs, FailureCause.cls,
      LogClass.code]

/-- Settles O20: an attach under the refresh profile from the state whose timer is loaded. -/
theorem setWriteProtocolFormatTick : Obligations.SetWriteProtocolFormatTick := by
  intro s hs
  refine ⟨fun hok => ?_, fun herr => ?_⟩
  · simp [exec, execSetWriteProtocolFormat, answeredOk, hok, startPeriod_readClock_eq, goto_attachDevice, hs,
      Profile.code]
  · simp [exec, execSetWriteProtocolFormat, answeredOk, herr, startPeriod_readClock_eq, raiseFailure_attachDevice, hs,
      Profile.code, FailureCause.cls, LogClass.code]

/-- Settles O21: a detach from the state whose timer is loaded; its failure goes into the rendezvous. -/
theorem prepareReinitTick : Obligations.PrepareReinitTick := by
  intro s hs
  refine ⟨fun hok => ?_, fun herr => ?_⟩
  · simp [exec, execPrepareReinit, answeredOk, hok, startPeriod_readClock_eq, goto_detachDevice, hs]
  · simp [exec, execPrepareReinit, answeredOk, herr, startPeriod_readClock_eq, raiseFailure_detachDevice, waitThen,
      goto_of_ne, hs, FailureCause.cls, LogClass.code]

/-- Settles O22: a detach, issued whether or not a handle is held (R115). -/
theorem cancelCfgOffModeTick : Obligations.CancelCfgOffModeTick := by
  intro s hs
  refine ⟨fun hok => ?_, fun herr => ?_⟩
  · simp [exec, execCancelCfgOffMode, answeredOk, hok, goto_detachDevice, hs]
  · simp [exec, execCancelCfgOffMode, answeredOk, herr, raiseFailure_detachDevice, hs, FailureCause.cls, LogClass.code]

/-- Settles O23: the tick presents NONE. -/
theorem offModeTick : Obligations.OffModeTick := by
  intro s hs
  simp [exec, execOffMode, present_none_eq, hs]

/-! ## OFF_MODE over many edges -/

theorem plainEdge_iff (rom : Rom) (i : Input) :
    plainEdge rom i = true ↔ i.rst = false ∧ firstMissing rom i.moves = none := by
  simp [plainEdge]

/-- In OFF_MODE an edge that is no reset, enabled or not, drives the ports and does nothing else (R41, R116). -/
theorem step_offMode {s : State} {i : Input} {rest : List Input} (hcur : s.current = .offMode)
    (hs : s.scenario = i :: rest) (hi : plainEdge s.rom i = true) :
    ∃ o, step s = .next (settle { latch s i rest with out := o }) := by
  obtain ⟨hrst, hmoves⟩ := (plainEdge_iff s.rom i).1 hi
  have hl := latchInput_cons_existing s i rest hs hmoves
  cases he : i.tickEn with
  | false => exact ⟨_, step_of_idle hl hrst he⟩
  | true =>
    have hdecode : decode .state (fetchWord (latch s i rest)) = .ok .offMode := by
      rw [everyTagFetches, latch_current, hcur]
      rfl
    have hstep := stepRunsDecodedInstruction s _ _ hl hrst he hdecode
    rw [offModeTick (latch s i rest) hcur] at hstep
    exact ⟨_, hstep⟩

/-- Settles O24, by induction on the edges: each leaves the registers as they were. -/
theorem offModeAbsorbs : Obligations.OffModeAbsorbs := by
  intro edges
  induction edges with
  | nil => exact fun s hcur _ _ => ⟨s, rfl, hcur, rfl, rfl, rfl, rfl⟩
  | cons i rest ih =>
    intro s hcur hs hplain
    obtain ⟨hi, hrest⟩ := List.forall_mem_cons.1 hplain
    obtain ⟨o, hstep⟩ := step_offMode hcur hs hi
    obtain ⟨t, hrun, hkept⟩ := ih (settle { latch s i rest with out := o }) hcur rfl hrest
    refine ⟨t, ?_, hkept⟩
    rw [List.length_cons, Nat.add_comm]
    exact run_trans (run_of_step hstep) hrun

end Sys2Proof.Machine
end

section
/-!
The configuration command states (R120 to R127): the next state of a tick, whatever the queue answers.
-/

namespace Sys2Proof.Machine

/-! ## SendCommand (R105) -/

/-- A record without payload leaves the ports of the payload 0 (R74). -/
theorem recordPorts_cfgRecord (cmd : BitVec 3) (addr : BitVec 8) (T : Tag) :
    recordPorts (cfgRecord cmd addr) T = headerPorts cmd addr T :=
  rfl

/-- Both answers lead to the rendezvous: only the count of outstanding transactions depends on the answer. -/
theorem sendCommand_eq {k : CfgCommand} {S : Tag} {s : State} (h : s.current ≠ .waitDriverReady) :
    sendCommand k S s
      = { s with
          next := S, previous := s.current, current := .waitDriverReady
          outstanding := if s.port.rspOk then s.outstanding + 1 else s.outstanding
          out := recordPorts (cfgtx s.rom k) s.current
          trace := s.trace ++ [.queueTransaction s.handle (cfgtx s.rom k) s.rom.val.queueTimeout] } := by
  rw [sendCommand, queueTransaction_eq]
  exact goto_of_ne h.symm

/-- An instruction that is SendCommand, in a state other than the rendezvous, sends that command (R105, R107). -/
theorem sendsCommand_of_exec {i : Instr} {k : CfgCommand} {T S : Tag} {s : State} (hT : T ≠ .waitDriverReady)
    (hcur : s.current = T) (h : exec i s = .next (sendCommand k S s)) : SendsCommand i k T S s := by
  subst hcur
  rw [SendsCommand, h, sendCommand_eq hT, cfgtx, recordPorts_cfgRecord]
  rfl

/-! ## The obligations -/

/-- Settles O25: the flag decides between SendCommand and a tick that presents NONE and goes on. -/
theorem cfgSysDisTick : Obligations.CfgSysDisTick := by
  intro s hs
  refine ⟨fun hcold => ?_, fun hwarm => ?_⟩
  · have hexec : exec .cfgSysDis s = .next (sendCommand .sysDis .cfgComOption s) := by
      simp [exec, execCfgSysDis, hcold]
    exact sendsCommand_of_exec (by decide) hs hexec
  · simp [exec, execCfgSysDis, hwarm, present_none_eq, goto_of_ne, hs]

/-- Settles O26: each of the six is a SendCommand with its own command and target. -/
theorem commandStateTicks : Obligations.CommandStateTicks := by
  intro s
  refine ⟨?_, ?_, ?_, ?_, ?_, ?_⟩ <;> exact fun hs => sendsCommand_of_exec (by decide) hs rfl

end Sys2Proof.Machine
end

section
/-!
REFRESH and the rendezvous (R130 to R134): what the watchdog decides, the two REFRESH ticks with their next states, that
a frame depends on what was read in its tick alone, and the wait, returned or held over any number of edges.
-/

namespace Sys2Proof.Machine

/-! ## The watchdog (R132) -/

/-- Settles O28: the test decides how the tick ends, and the rest is the arithmetic of the modular difference. -/
theorem watchdogDecides : Obligations.WatchdogDecides := by
  intro s _
  refine ⟨fun hpast => ?_, fun hwithin => ?_, fun hahead => ?_, fun hbehind => ?_⟩
  · refine ⟨_, exec_eq_afterTick .refresh s, ?_⟩
    simp [afterTick_refresh_timedOut s ((timedOut_eq_true_iff s).2 hpast)]
  · refine ⟨_, exec_eq_afterTick .refresh s, ?_⟩
    simp [afterTick_refresh_inWindow s ((timedOut_eq_false_iff s).2 (Nat.lt_succ_of_le hwithin))]
  · exact BitVec.toNat_sub_of_le hahead
  · have hsub := BitVec.toNat_sub_of_lt hbehind
    have hstart := s.refreshPeriodStart.isLt
    exact ⟨hsub, by omega⟩

/-! ## The two REFRESH ticks (R130) -/

/-- An Encoder run writes `BUF` and, at its eleven reads, lets the environment's writes land; nothing else changes
(R134). -/
theorem encodeFrame_eq (s : State) :
    encodeFrame s
      = { s with
          buf := (encodeFrame s).buf
          shared := sharedAt s 11
          port := { s.port with moves := s.port.moves.drop 11 } } := by
  calc encodeFrame s
    _ = { encodeFrame s with buf := (encodeFrame s).buf } := rfl
    _ = _ := by simp [encodeFrame_shared, encodeFrame_port]

/-- The record of a tick that has just encoded is the frame of the values read (R75, R148). -/
theorem wrtx_encodeFrame (s : State) : wrtx s.rom (encodeFrame s).buf = frameRecord s.rom (frameInput s) := by
  rw [wrtx, writeRecord, payloadOf_encodeFrame]
  rfl

theorem readClock_clearStartup_eq (s : State) :
    readClock (clearStartup s)
      = { s with startupInit := false, trace := s.trace ++ [.nowMicros s.port.nowUs] } :=
  rfl

/-- The frame a REFRESH tick prepares: the flag cleared, the clock read, the Encoder run (R130). -/
theorem encodeFrame_readClock_clearStartup_eq (s : State) :
    encodeFrame (readClock (clearStartup s))
      = { s with
          startupInit := false
          trace := s.trace ++ [.nowMicros s.port.nowUs]
          buf := (encodeFrame s).buf
          shared := sharedAt s 11
          port := { s.port with moves := s.port.moves.drop 11 } } :=
  encodeFrame_eq (readClock (clearStartup s))

/-- Settles O29: the tick presents NONE and goes to PREPARE_REINIT. -/
theorem refreshTimeoutTick : Obligations.RefreshTimeoutTick := by
  intro s hcur hpast
  rw [exec_eq_afterTick, afterTick_refresh_timedOut s ((timedOut_eq_true_iff s).2 hpast), perform, present_none_eq,
    readClock_clearStartup_eq, goto_of_ne (by simp [hcur]), hcur]

/-- Settles O30: the Encoder's run, then the queue of its record, then the rendezvous. -/
theorem refreshFrameTick : Obligations.RefreshFrameTick := by
  intro s hcur hwithin
  have hw := (timedOut_eq_false_iff s).2 hwithin
  refine ⟨_, exec_eq_afterTick .refresh s, ?_, fun a => ?_⟩
  · rw [afterTick_refresh_buf s hw, afterTick_refresh_inWindow s hw, wrtx_encodeFrame, perform, queueTransaction_eq,
      encodeFrame_readClock_clearStartup_eq, waitThen, goto_of_ne (by simp [hcur]), hcur, List.append_assoc]
    rfl
  · rw [afterTick_refresh_buf s hw, read_encodeFrame_buf]

/-! ## A frame is a function of its inputs (R134) -/

/-- Of the constants a frame's byte uses the table and `SEG_DP` alone. -/
theorem frameByte_congr {rom rom' : Rom} (htable : rom.val.segtab = rom'.val.segtab)
    (hdp : rom.val.segDp = rom'.val.segDp) (x : FrameInput) (a : Nat) : frameByte rom x a = frameByte rom' x a := by
  simp only [frameByte, column, segtabEntry, htable, hdp]

/-- Settles O38: both ticks leave the closed form, whose byte is one of equal inputs and an equal table. -/
theorem frameIsFunctionOfInputs : Obligations.FrameIsFunctionOfInputs := by
  intro s t s' t' hs ht htable hdp hinput hexec hexec' a ha
  rw [eq_afterTick_of_exec hexec, eq_afterTick_of_exec hexec', afterTick_refresh_buf s ((timedOut_eq_false_iff s).2 hs),
    afterTick_refresh_buf t ((timedOut_eq_false_iff t).2 ht), read_encodeFrame_buf, read_encodeFrame_buf, if_pos ha,
    if_pos ha, hinput, frameByte_congr htable hdp]

/-! ## The rendezvous (R131) -/

theorem goto_eq (S : Tag) (s : State) :
    goto S s = { s with current := S, previous := if S = s.current then s.previous else s.current } := by
  unfold goto
  split
  · subst S
    rfl
  · rfl

/-- Settles O31: the call returns, and `pc <- next` saves the rendezvous as `previous` unless it stays there (R102). -/
theorem waitReturns : Obligations.WaitReturns := by
  intro s hcur hvalid
  simp [exec, execWaitDriverReady, hvalid, awaitResult_eq, goto_eq, hcur]

/-- Settles O32: the call is pending and no tag changes. -/
theorem waitHolds : Obligations.WaitHolds := by
  intro s hcur hvalid
  simp [exec, execWaitDriverReady, hvalid, awaitResult_eq, hcur]

/-! ## The wait over many edges (R199) -/

/-- A wait that goes on from s to t: besides the hold, the ports, the environment's part of the state and the trace
nothing changes, and the trace by the one call at most, which a hold has already issued. -/
def WaitsOn (s t : State) : Prop :=
  t = { s with
      held := t.held, out := t.out, port := t.port, shared := t.shared, scenario := t.scenario, tick := t.tick
      trace := t.trace }
    ∧ (t.trace = s.trace ∨ s.held = false ∧ t.trace = s.trace ++ [.awaitResult s.handle])

/-- An edge on which AwaitResult does not return: without a tick the hold stays as it is, with one it has begun (R41,
R131). -/
theorem step_waitDriverReady_pending {s : State} {i : Input} {rest : List Input} (hcur : s.current = .waitDriverReady)
    (hs : s.scenario = i :: rest) (hi : plainEdge s.rom i = true) (hvalid : i.rspValid = false) :
    ∃ o b tr, step s = .next (settle { latch s i rest with out := o, held := b, trace := tr })
      ∧ (b = s.held ∧ tr = s.trace
        ∨ b = true ∧ tr = if s.held then s.trace else s.trace ++ [.awaitResult s.handle]) := by
  obtain ⟨hrst, hmoves⟩ := (plainEdge_iff s.rom i).1 hi
  have hl := latchInput_cons_existing s i rest hs hmoves
  cases he : i.tickEn with
  | false => exact ⟨_, _, _, step_of_idle hl hrst he, .inl ⟨rfl, rfl⟩⟩
  | true =>
    have htick := waitHolds (latch s i rest) hcur hvalid
    have hstep := step_of_tick hl hrst he
    rw [latch_current, hcur, Tag.instr, ← eq_afterTick_of_exec htick] at hstep
    exact ⟨_, _, _, hstep, .inr ⟨rfl, rfl⟩⟩

/-- By induction on the edges: the first edge that ticks issues the call, and the ones after it add nothing. -/
theorem run_waitsOn (edges : List Input) : ∀ s : State, s.current = .waitDriverReady → s.scenario = edges
    → (∀ i ∈ edges, plainEdge s.rom i = true ∧ i.rspValid = false)
    → ∃ t, Host.Core.run core edges.length s = .next t ∧ WaitsOn s t := by
  induction edges with
  | nil => exact fun s _ _ _ => ⟨s, rfl, rfl, .inl rfl⟩
  | cons i rest ih =>
    intro s hcur hs hedges
    obtain ⟨⟨hi, hvalid⟩, hrest⟩ := List.forall_mem_cons.1 hedges
    obtain ⟨o, b, tr, hstep, hhold⟩ := step_waitDriverReady_pending hcur hs hi hvalid
    obtain ⟨t, hrun, hkept, hcalls⟩ :=
      ih (settle { latch s i rest with out := o, held := b, trace := tr }) hcur rfl hrest
    refine ⟨t, ?_, hkept, ?_⟩
    · rw [List.length_cons, Nat.add_comm]
      exact run_trans (run_of_step hstep) hrun
    · change t.trace = tr ∨ b = false ∧ t.trace = tr ++ [.awaitResult s.handle] at hcalls
      obtain ⟨rfl, rfl⟩ | ⟨rfl, rfl⟩ := hhold
      · exact hcalls
      · have hquiet : t.trace = if s.held then s.trace else s.trace ++ [.awaitResult s.handle] := by simpa using hcalls
        cases hheld : s.held with
        | true => exact .inl (by simpa [hheld] using hquiet)
        | false => exact .inr ⟨rfl, by simpa [hheld] using hquiet⟩

/-- Settles O33: a wait that goes on keeps the registers and issues the one call at most. -/
theorem unboundedWaitHolds : Obligations.UnboundedWaitHolds := by
  intro edges s hcur hs hedges
  obtain ⟨t, hrun, hkept, hcalls⟩ := run_waitsOn edges s hcur hs hedges
  refine ⟨t, hrun, ?_⟩
  rw [hkept]
  exact ⟨hcur, rfl, rfl, rfl, rfl, rfl, rfl, rfl, hcalls.imp_right And.right⟩

end Sys2Proof.Machine
end

section
/-!
The finished frame (R141 to R151): the closed form, the shared bit, and that a digit's column is its own digit's alone,
whatever the environment writes between the reads (R59).
-/

namespace Sys2Proof.Machine

/-! ## A byte of the finished frame -/

theorem read_encodeFrame_buf_of_lt (s : State) {a : Nat} (ha : a < 16) :
    Table.read (encodeFrame s).buf a = some (frameByte s.rom (frameInput s) a) :=
  (read_encodeFrame_buf s a).trans (if_pos ha)

theorem eq_frameByte_of_read {s : State} {a : Nat} {b : Byte} (ha : a < 16)
    (h : Table.read (encodeFrame s).buf a = some b) : b = frameByte s.rom (frameInput s) a :=
  Option.some.inj (h.symm.trans (read_encodeFrame_buf_of_lt s ha))

/-- A bit of a byte is one of the three unused ones or in a digit's column (R77, R145). -/
theorem unused_or_digitBit {i : Nat} (hi : i < 8) : (i = 0 ∨ i = 1 ∨ i = 7) ∨ ∃ d : Fin 5, i = d.val + 2 := by
  by_cases h : 2 ≤ i ∧ i < 7
  · exact .inr ⟨⟨i - 2, by omega⟩, by simp only; omega⟩
  · exact .inl (by omega)

theorem frameByte_getLsbD_eq_of_unused {rom rom' : Rom} {x x' : FrameInput} {a i : Nat} (hi : i = 0 ∨ i = 1 ∨ i = 7) :
    (frameByte rom x a).getLsbD i = (frameByte rom' x' a).getLsbD i := by
  obtain ⟨h0, h1, h7⟩ := frameByte_getLsbD_unused rom x a
  obtain ⟨h0', h1', h7'⟩ := frameByte_getLsbD_unused rom' x' a
  obtain rfl | rfl | rfl := hi
  · rw [h0, h0']
  · rw [h1, h1']
  · rw [h7, h7']

/-! ## What a column depends on -/

/-- Digit 0's column at `SEG_DP` is the shared bit (R147, R151). -/
theorem column_zero_segDp (rom : Rom) (x : FrameInput) :
    column rom x 0 rom.val.segDp = ((atDigit x.digit 0).decimalPoint || x.wifi) :=
  (if_pos rfl).trans (if_pos rfl)

/-- A column uses the table, `SEG_DP`, its own digit's value and toggle, and, in digit 0's, the icon term (R150 P7). -/
theorem column_congr {rom rom' : Rom} {x x' : FrameInput} {d : Fin 5} (htable : rom.val.segtab = rom'.val.segtab)
    (hdp : rom.val.segDp = rom'.val.segDp) (hdigit : atDigit x.digit d = atDigit x'.digit d)
    (htoggle : atDigit x.toggle d = atDigit x'.toggle d) (hwifi : d = 0 → x.wifi = x'.wifi) (a : Nat) :
    column rom x d a = column rom' x' d a := by
  by_cases hd : d = 0
  · simp only [column, segtabEntry, htable, hdp, hdigit, htoggle, hwifi hd]
  · simp only [column, segtabEntry, htable, hdp, hdigit, htoggle, if_neg hd]

/-! ## The reads of a tick, by digit -/

theorem atDigit_frameInput_digit (s : State) (d : Fin 5) :
    atDigit (frameInput s).digit d = atDigit (sharedAt s (2 * d.val + 1)).digits d := by
  fin_cases d <;> rfl

theorem atDigit_frameInput_toggle (s : State) (d : Fin 5) :
    atDigit (frameInput s).toggle d = (atDigit (sharedAt s (2 * d.val + 2)).digitBlink d).toggle := by
  fin_cases d <;> rfl

/-! ## Display states that differ in one digit -/

/-- All that the Encoder can read agrees, but for digit d's value and blink state. -/
structure AgreeBut (d : Fin 5) (sh sh' : Shared) : Prop where
  digits     : ∀ e, e ≠ d → atDigit sh.digits e = atDigit sh'.digits e
  digitBlink : ∀ e, e ≠ d → atDigit sh.digitBlink e = atDigit sh'.digitBlink e
  iconBlink  : sh.iconBlink = sh'.iconBlink

theorem agreeBut_setDigit (d : Fin 5) (v : DisplayDigit) (b : BlinkState) (sh : Shared) :
    AgreeBut d sh
      { sh with digits := setDigit sh.digits d v, digitBlink := setDigit sh.digitBlink d b } where
  digits e he := by rw [atDigit_setDigit, if_neg he]
  digitBlink e he := by rw [atDigit_setDigit, if_neg he]
  iconBlink := rfl

theorem AgreeBut.applyWrite {d : Fin 5} {sh sh' : Shared} (h : AgreeBut d sh sh') (w : EnvWrite) :
    AgreeBut d (applyWrite sh w) (applyWrite sh' w) := by
  obtain ⟨hdigits, hblink, hicon⟩ := h
  cases w with
  | digit e v =>
    refine ⟨fun e' he' => ?_, hblink, hicon⟩
    simp only [Machine.applyWrite, atDigit_setDigit, hdigits e' he']
  | digitBlink e v =>
    refine ⟨hdigits, fun e' he' => ?_, hicon⟩
    simp only [Machine.applyWrite, atDigit_setDigit, hblink e' he']
  | iconBlink i v => exact ⟨hdigits, hblink, congrArg (Table.write · i v) hicon⟩
  | icons k v => exact ⟨hdigits, hblink, hicon⟩

/-- The same writes of the environment keep the two states in agreement (R59). -/
theorem AgreeBut.applyPhases {d : Fin 5} {sh sh' : Shared} (h : AgreeBut d sh sh') (phases : List (List EnvWrite)) :
    AgreeBut d (applyPhases sh phases) (applyPhases sh' phases) := by
  rw [applyPhases_eq_foldl_flatten, applyPhases_eq_foldl_flatten]
  exact List.foldl_rel h fun w _ _ _ hsh => hsh.applyWrite w

/-- Under the same writes, a difference in one digit before the tick reaches no other digit's column (R150 P7). -/
theorem column_frameInput_eq_of_agreeBut {s : State} {sh : Shared} {d e : Fin 5} (h : AgreeBut d s.shared sh)
    (he : e ≠ d) (a : Nat) :
    column s.rom (frameInput s) e a = column s.rom (frameInput { s with shared := sh }) e a := by
  have hread : ∀ k, AgreeBut d (sharedAt s k) (sharedAt { s with shared := sh } k) :=
    fun k => h.applyPhases (s.port.moves.take k)
  apply column_congr rfl rfl
  · simp only [atDigit_frameInput_digit, (hread _).digits e he]
  · simp only [atDigit_frameInput_toggle, (hread _).digitBlink e he]
  · simp only [frameInput, iconBlinkOf, (hread 11).iconBlink, implies_true]

/-! ## The obligations -/

/-- Settles O35: the closed form of the loop, address by address. -/
theorem encoderMeetsClosedForm : Obligations.EncoderMeetsClosedForm :=
  read_encodeFrame_buf

/-- Settles O37: the shared bit is digit 0's column at `SEG_DP`. -/
theorem sharedBitIsOr : Obligations.SharedBitIsOr := fun s =>
  ⟨_, read_encodeFrame_buf_of_lt s (segDp_lt s.rom),
    (frameByte_getLsbD_digit s.rom (frameInput s) _ 0).trans (column_zero_segDp s.rom (frameInput s))⟩

/-- Settles O39: a column is made of its own reads, and the environment's writes carry a difference in one digit into no
other digit's reads. -/
theorem digitColumnsIndependent : Obligations.DigitColumnsIndependent := by
  refine ⟨?_, ?_⟩
  · intro s t d htable hdp hdigit htoggle hwifi a x y ha hx hy
    rw [eq_frameByte_of_read ha hx, eq_frameByte_of_read ha hy, frameByte_getLsbD_digit, frameByte_getLsbD_digit]
    exact column_congr htable hdp hdigit htoggle hwifi a
  · intro s d v b a i x y ha hi hne hx hy
    rw [eq_frameByte_of_read ha hx, eq_frameByte_of_read ha hy]
    obtain hunused | ⟨e, rfl⟩ := unused_or_digitBit hi
    · exact frameByte_getLsbD_eq_of_unused hunused
    · have hed : e ≠ d := fun h => hne (by rw [h])
      rw [frameByte_getLsbD_digit, frameByte_getLsbD_digit]
      exact column_frameInput_eq_of_agreeBut (agreeBut_setDigit d v b s.shared) hed a

end Sys2Proof.Machine
end

section
/-!
`BUF` while a transaction is in flight (R197): the flight is the rendezvous, and the rendezvous does not run the Encoder.
-/

namespace Sys2Proof.Machine

/-- A transaction is in flight only in the rendezvous (R39 (iv)). -/
theorem SequencerInv.waiting_of_inFlight {s : State} (h : SequencerInv s) (hout : s.outstanding = 1) :
    s.current = .waitDriverReady := by
  by_contra hc
  obtain ⟨-, hidle, -⟩ := h.outside_rendezvous hc
  exact absurd (hidle.symm.trans hout) Nat.zero_ne_one

theorem afterTick_waitDriverReady_buf (s : State) : (afterTick .waitDriverReady s).buf = s.buf := by
  rw [afterTick_buf, (preparation_prepare .waitDriverReady s).buf_of_no_frame (.inl nofun)]

/-! ## The obligations -/

/-- Settles O58: with a transaction in flight the edge ticks the rendezvous or is idle, and neither writes `BUF`. -/
theorem bufStableInFlight : Obligations.BufStableInFlight := by
  intro s s₁ t hinv hout hl hrst hstep a
  have hwait := hinv.waiting_of_inFlight hout
  obtain ⟨i, rest, rfl⟩ := latchInput_ok s s₁ hl
  suffices hbuf : t.buf = s.buf by rw [hbuf]
  rcases step_cases hl hstep with ⟨hreset, -⟩ | ⟨-, rfl | rfl⟩
  · exact absurd (hrst.symm.trans hreset) Bool.false_ne_true
  · rw [settle_buf, latch_current, hwait]
    exact afterTick_waitDriverReady_buf (latch s i rest)
  · rfl

end Sys2Proof.Machine
end
